-- ==== Sys2Proof/Word.lean ====
section
/-! DEFINITION. The words of the block: its 32-bit data word, the byte and the sextet, the two word formats
of spec/opcode_table.json (R80), the register names of the window (R15) and the shape of a table row. -/

namespace Sys2Proof

/-- Every host transaction moves one 32-bit word, and FIFO elements are 32 bits (R50, R41, R42). -/
abbrev Word := BitVec 32

/-- A byte element, an 8-bit value (R8). -/
abbrev Byte := BitVec 8

/-- A 6-bit group, an index into the Base64 alphabet (R12). -/
abbrev Sextet := BitVec 6

/-- What the host puts before the block in one transaction, in the two formats of the opcode table (R80).
`bus t d` is the transaction word T = {WE, ADDR[5:0]} followed by its 32 data bits (R81).
`cmd d` is the data word of a CMD write, the format CMD of rule R62: the line a pseudo-instruction of R82
stands for, `WR CMD, d`. -/
inductive HostWord where
  | bus (t : BitVec 7) (d : Word)
  | cmd (d : Word)
  deriving DecidableEq, Repr

/-- The registers of the 64-byte window by name (R15); the four offsets 0x30 to 0x3C are one name. -/
inductive Reg where
  | id | ctrl | cmd | inLen | status | errCode | errPos | inCount | outCount | inData | outData | param
  | reserved
  deriving DecidableEq, Repr

/-- The two formats of the opcode table (R80). -/
inductive TableFormat where
  | bustx | command
  deriving DecidableEq, Repr

/-- One row of spec/opcode_table.json: a word fits the row when its bits under `mask` equal `pattern`. -/
structure TableRow where
  mnemonic : String
  format   : TableFormat
  pattern  : Byte
  mask     : Byte
  deriving DecidableEq, Repr

/-- Why a number is not a word of the opcode table: no such instruction word exists in the spec. -/
inductive TableReject where
  | tooWide
  | noSevenBitT
  deriving DecidableEq, Repr

end Sys2Proof
end

