-- ==== Sys2Proof/Syntax.lean ====
section
/-! DEFINITION. The instructions of the block: one constructor per row of spec/opcode_table.json. A bus transaction
carries its byte offset ADDR[5:0], and a write its data word D (R80); a command carries its data word D, whose bits
4:0 are the command and whose bits 31:5 are ignored (R62, R65). -/

namespace Sys2Proof

/-- One constructor per row of spec/opcode_table.json, in the table's order, with the rule that gives its meaning. -/
inductive Instr where
  | rdId (addr : BitVec 6)   -- R84
  | wrId (addr : BitVec 6) (d : Word)   -- R85
  | rdCtrl (addr : BitVec 6)   -- R86
  | wrCtrl (addr : BitVec 6) (d : Word)   -- R87
  | rdCmd (addr : BitVec 6)   -- R88
  | wrCmd (addr : BitVec 6) (d : Word)   -- R89
  | rdInLen (addr : BitVec 6)   -- R90
  | wrInLen (addr : BitVec 6) (d : Word)   -- R91
  | rdStatus (addr : BitVec 6)   -- R92
  | wrStatus (addr : BitVec 6) (d : Word)   -- R93
  | rdErrCode (addr : BitVec 6)   -- R94
  | wrErrCode (addr : BitVec 6) (d : Word)   -- R95
  | rdErrPos (addr : BitVec 6)   -- R96
  | wrErrPos (addr : BitVec 6) (d : Word)   -- R97
  | rdInCount (addr : BitVec 6)   -- R98
  | wrInCount (addr : BitVec 6) (d : Word)   -- R99
  | rdOutCount (addr : BitVec 6)   -- R100
  | wrOutCount (addr : BitVec 6) (d : Word)   -- R101
  | rdInData (addr : BitVec 6)   -- R102
  | wrInData (addr : BitVec 6) (d : Word)   -- R103
  | rdOutData (addr : BitVec 6)   -- R104
  | wrOutData (addr : BitVec 6) (d : Word)   -- R105
  | rdParam (addr : BitVec 6)   -- R106
  | wrParam (addr : BitVec 6) (d : Word)   -- R107
  | rdReserved (addr : BitVec 6)   -- R108
  | wrReserved (addr : BitVec 6) (d : Word)   -- R109
  | nop (d : Word)   -- R111
  | b64enc (d : Word)   -- R112
  | b64dec (d : Word)   -- R113
  | b64decReject (d : Word)   -- R114
  | u8decLenient (d : Word)   -- R115
  | u8decStrict (d : Word)   -- R116
  | u8enc (d : Word)   -- R117
  | illegal5 (d : Word)   -- R119
  | illegal6 (d : Word)   -- R119
  | illegal7 (d : Word)   -- R119
  | illegal8 (d : Word)   -- R119
  | illegal9 (d : Word)   -- R119
  | illegalA (d : Word)   -- R119
  | illegalB (d : Word)   -- R119
  | illegalC (d : Word)   -- R119
  | illegalD (d : Word)   -- R119
  | illegalE (d : Word)   -- R119
  | abort (d : Word)   -- R118
  deriving DecidableEq, Repr

end Sys2Proof
end

