-- ==== Sys2Proof/Decode.lean ====
section
/-! DEFINITION. From the words of spec/opcode_table.json to instructions and back. Decoding is total: every 7-bit T has
a rule (R83) and every command word has one (R63). A number that is no word of the table is rejected by name. -/

namespace Sys2Proof

/-- The register at a byte offset, by ADDR[5:2]; ADDR[1:0] do not matter (R50, R83). -/
def regAt (addr : BitVec 6) : Reg :=
  match (addr.extractLsb' 2 4).toNat with
  | 0 => .id
  | 1 => .ctrl
  | 2 => .cmd
  | 3 => .inLen
  | 4 => .status
  | 5 => .errCode
  | 6 => .errPos
  | 7 => .inCount
  | 8 => .outCount
  | 9 => .inData
  | 10 => .outData
  | 11 => .param
  | _ => .reserved

/-- OPCODE, bits 3:0 of a command word (R62). -/
def opcodeOf (d : Word) : BitVec 4 := d.extractLsb' 0 4

/-- MODE, bit 4 of a command word (R62). -/
def modeOf (d : Word) : Bool := d.getLsbD 4

/-- The read rule of each register (R83). -/
def readFrom (r : Reg) (addr : BitVec 6) : Instr :=
  match r with
  | .id => .rdId addr
  | .ctrl => .rdCtrl addr
  | .cmd => .rdCmd addr
  | .inLen => .rdInLen addr
  | .status => .rdStatus addr
  | .errCode => .rdErrCode addr
  | .errPos => .rdErrPos addr
  | .inCount => .rdInCount addr
  | .outCount => .rdOutCount addr
  | .inData => .rdInData addr
  | .outData => .rdOutData addr
  | .param => .rdParam addr
  | .reserved => .rdReserved addr

/-- The write rule of each register (R83). -/
def writeTo (r : Reg) (addr : BitVec 6) (d : Word) : Instr :=
  match r with
  | .id => .wrId addr d
  | .ctrl => .wrCtrl addr d
  | .cmd => .wrCmd addr d
  | .inLen => .wrInLen addr d
  | .status => .wrStatus addr d
  | .errCode => .wrErrCode addr d
  | .errPos => .wrErrPos addr d
  | .inCount => .wrInCount addr d
  | .outCount => .wrOutCount addr d
  | .inData => .wrInData addr d
  | .outData => .wrOutData addr d
  | .param => .wrParam addr d
  | .reserved => .wrReserved addr d

/-- A transaction word T = {WE, ADDR[5:0]} with its data bits (R80, R83). A read has no operand, so its data bits
carry nothing in. -/
def decodeBus (t : BitVec 7) (d : Word) : Instr :=
  let addr := t.extractLsb' 0 6
  if t.getLsbD 6 then writeTo (regAt addr) addr d else readFrom (regAt addr) addr

/-- A command word by OPCODE, and by MODE for the two opcodes that have one (R63, R64, R65). -/
def decodeCmd (d : Word) : Instr :=
  match (opcodeOf d).toNat with
  | 0 => .nop d
  | 1 => .b64enc d
  | 2 => if modeOf d then .b64decReject d else .b64dec d
  | 3 => if modeOf d then .u8decStrict d else .u8decLenient d
  | 4 => .u8enc d
  | 5 => .illegal5 d
  | 6 => .illegal6 d
  | 7 => .illegal7 d
  | 8 => .illegal8 d
  | 9 => .illegal9 d
  | 10 => .illegalA d
  | 11 => .illegalB d
  | 12 => .illegalC d
  | 13 => .illegalD d
  | 14 => .illegalE d
  | _ => .abort d

/-- The instruction a host word stands for. -/
def decode : HostWord → Instr
  | .bus t d => decodeBus t d
  | .cmd d => decodeCmd d

/-- A read transaction's word: WE = 0, and no write data (R80). -/
def readWord (addr : BitVec 6) : HostWord := .bus (0#1 ++ addr) 0

/-- A write transaction's word: WE = 1, with its data (R80). -/
def writeWord (addr : BitVec 6) (d : Word) : HostWord := .bus (1#1 ++ addr) d

/-- The host word of an instruction (R80, R62). -/
def encode : Instr → HostWord
  | .rdId addr => readWord addr
  | .wrId addr d => writeWord addr d
  | .rdCtrl addr => readWord addr
  | .wrCtrl addr d => writeWord addr d
  | .rdCmd addr => readWord addr
  | .wrCmd addr d => writeWord addr d
  | .rdInLen addr => readWord addr
  | .wrInLen addr d => writeWord addr d
  | .rdStatus addr => readWord addr
  | .wrStatus addr d => writeWord addr d
  | .rdErrCode addr => readWord addr
  | .wrErrCode addr d => writeWord addr d
  | .rdErrPos addr => readWord addr
  | .wrErrPos addr d => writeWord addr d
  | .rdInCount addr => readWord addr
  | .wrInCount addr d => writeWord addr d
  | .rdOutCount addr => readWord addr
  | .wrOutCount addr d => writeWord addr d
  | .rdInData addr => readWord addr
  | .wrInData addr d => writeWord addr d
  | .rdOutData addr => readWord addr
  | .wrOutData addr d => writeWord addr d
  | .rdParam addr => readWord addr
  | .wrParam addr d => writeWord addr d
  | .rdReserved addr => readWord addr
  | .wrReserved addr d => writeWord addr d
  | .nop d => .cmd d
  | .b64enc d => .cmd d
  | .b64dec d => .cmd d
  | .b64decReject d => .cmd d
  | .u8decLenient d => .cmd d
  | .u8decStrict d => .cmd d
  | .u8enc d => .cmd d
  | .illegal5 d => .cmd d
  | .illegal6 d => .cmd d
  | .illegal7 d => .cmd d
  | .illegal8 d => .cmd d
  | .illegal9 d => .cmd d
  | .illegalA d => .cmd d
  | .illegalB d => .cmd d
  | .illegalC d => .cmd d
  | .illegalD d => .cmd d
  | .illegalE d => .cmd d
  | .abort d => .cmd d

/-- The table's name of each instruction. -/
def mnemonic : Instr → String
  | .rdId _ => "RD_ID"
  | .wrId _ _ => "WR_ID"
  | .rdCtrl _ => "RD_CTRL"
  | .wrCtrl _ _ => "WR_CTRL"
  | .rdCmd _ => "RD_CMD"
  | .wrCmd _ _ => "WR_CMD"
  | .rdInLen _ => "RD_IN_LEN"
  | .wrInLen _ _ => "WR_IN_LEN"
  | .rdStatus _ => "RD_STATUS"
  | .wrStatus _ _ => "WR_STATUS"
  | .rdErrCode _ => "RD_ERR_CODE"
  | .wrErrCode _ _ => "WR_ERR_CODE"
  | .rdErrPos _ => "RD_ERR_POS"
  | .wrErrPos _ _ => "WR_ERR_POS"
  | .rdInCount _ => "RD_IN_COUNT"
  | .wrInCount _ _ => "WR_IN_COUNT"
  | .rdOutCount _ => "RD_OUT_COUNT"
  | .wrOutCount _ _ => "WR_OUT_COUNT"
  | .rdInData _ => "RD_IN_DATA"
  | .wrInData _ _ => "WR_IN_DATA"
  | .rdOutData _ => "RD_OUT_DATA"
  | .wrOutData _ _ => "WR_OUT_DATA"
  | .rdParam _ => "RD_PARAM"
  | .wrParam _ _ => "WR_PARAM"
  | .rdReserved _ => "RD_reserved__0x30-0x3C"
  | .wrReserved _ _ => "WR_reserved__0x30-0x3C"
  | .nop _ => "NOP"
  | .b64enc _ => "B64ENC"
  | .b64dec _ => "B64DEC"
  | .b64decReject _ => "B64DEC.REJECT"
  | .u8decLenient _ => "U8DEC.LENIENT"
  | .u8decStrict _ => "U8DEC.STRICT"
  | .u8enc _ => "U8ENC"
  | .illegal5 _ => "ILLEGAL_5"
  | .illegal6 _ => "ILLEGAL_6"
  | .illegal7 _ => "ILLEGAL_7"
  | .illegal8 _ => "ILLEGAL_8"
  | .illegal9 _ => "ILLEGAL_9"
  | .illegalA _ => "ILLEGAL_A"
  | .illegalB _ => "ILLEGAL_B"
  | .illegalC _ => "ILLEGAL_C"
  | .illegalD _ => "ILLEGAL_D"
  | .illegalE _ => "ILLEGAL_E"
  | .abort _ => "ABORT"

/-- The BUSTX rows of spec/opcode_table.json: match and mask over T (R80). -/
def busRows : List TableRow :=
  [⟨"RD_ID", .bustx, 0x00, 0x7C⟩,
   ⟨"WR_ID", .bustx, 0x40, 0x7C⟩,
   ⟨"RD_CTRL", .bustx, 0x04, 0x7C⟩,
   ⟨"WR_CTRL", .bustx, 0x44, 0x7C⟩,
   ⟨"RD_CMD", .bustx, 0x08, 0x7C⟩,
   ⟨"WR_CMD", .bustx, 0x48, 0x7C⟩,
   ⟨"RD_IN_LEN", .bustx, 0x0C, 0x7C⟩,
   ⟨"WR_IN_LEN", .bustx, 0x4C, 0x7C⟩,
   ⟨"RD_STATUS", .bustx, 0x10, 0x7C⟩] ++
  [⟨"WR_STATUS", .bustx, 0x50, 0x7C⟩,
   ⟨"RD_ERR_CODE", .bustx, 0x14, 0x7C⟩,
   ⟨"WR_ERR_CODE", .bustx, 0x54, 0x7C⟩,
   ⟨"RD_ERR_POS", .bustx, 0x18, 0x7C⟩,
   ⟨"WR_ERR_POS", .bustx, 0x58, 0x7C⟩,
   ⟨"RD_IN_COUNT", .bustx, 0x1C, 0x7C⟩,
   ⟨"WR_IN_COUNT", .bustx, 0x5C, 0x7C⟩,
   ⟨"RD_OUT_COUNT", .bustx, 0x20, 0x7C⟩,
   ⟨"WR_OUT_COUNT", .bustx, 0x60, 0x7C⟩] ++
  [⟨"RD_IN_DATA", .bustx, 0x24, 0x7C⟩,
   ⟨"WR_IN_DATA", .bustx, 0x64, 0x7C⟩,
   ⟨"RD_OUT_DATA", .bustx, 0x28, 0x7C⟩,
   ⟨"WR_OUT_DATA", .bustx, 0x68, 0x7C⟩,
   ⟨"RD_PARAM", .bustx, 0x2C, 0x7C⟩,
   ⟨"WR_PARAM", .bustx, 0x6C, 0x7C⟩,
   ⟨"RD_reserved__0x30-0x3C", .bustx, 0x30, 0x70⟩,
   ⟨"WR_reserved__0x30-0x3C", .bustx, 0x70, 0x70⟩]

/-- The CMD rows of spec/opcode_table.json: match and mask over bits 4:0 of the CMD write data (R80). -/
def cmdRows : List TableRow :=
  [⟨"NOP", .command, 0x00, 0x0F⟩,
   ⟨"B64ENC", .command, 0x01, 0x0F⟩,
   ⟨"B64DEC", .command, 0x02, 0x1F⟩,
   ⟨"B64DEC.REJECT", .command, 0x12, 0x1F⟩,
   ⟨"U8DEC.LENIENT", .command, 0x03, 0x1F⟩,
   ⟨"U8DEC.STRICT", .command, 0x13, 0x1F⟩,
   ⟨"U8ENC", .command, 0x04, 0x0F⟩,
   ⟨"ILLEGAL_5", .command, 0x05, 0x0F⟩,
   ⟨"ILLEGAL_6", .command, 0x06, 0x0F⟩] ++
  [⟨"ILLEGAL_7", .command, 0x07, 0x0F⟩,
   ⟨"ILLEGAL_8", .command, 0x08, 0x0F⟩,
   ⟨"ILLEGAL_9", .command, 0x09, 0x0F⟩,
   ⟨"ILLEGAL_A", .command, 0x0A, 0x0F⟩,
   ⟨"ILLEGAL_B", .command, 0x0B, 0x0F⟩,
   ⟨"ILLEGAL_C", .command, 0x0C, 0x0F⟩,
   ⟨"ILLEGAL_D", .command, 0x0D, 0x0F⟩,
   ⟨"ILLEGAL_E", .command, 0x0E, 0x0F⟩,
   ⟨"ABORT", .command, 0x0F, 0x0F⟩]

/-- The opcode table whole. -/
def opcodeTable : List TableRow := busRows ++ cmdRows

/-- A host word fits a row of its own format when its bits under the row's mask equal the row's match value (R80). -/
def TableRow.fits (r : TableRow) : HostWord → Bool
  | .bus t _ => r.format == .bustx && t.setWidth 8 &&& r.mask == r.pattern
  | .cmd d => r.format == .command && d.setWidth 8 &&& r.mask == r.pattern

/-- A number of at most 32 bits is a command word when it is the match value of a CMD row (0x00 to 0x0F, 0x12, 0x13) or
when it does not fit in one byte, as only the 32-bit CMD format then holds it (R62). -/
def isCommandNumber (w : Nat) : Bool := w < 16 || w == 0x12 || w == 0x13 || 256 ≤ w

/-- The host word behind a number laid out as the opcode table numbers its bits. The table gives both formats words of
one byte and tells them apart by a row's format only (R80), so a short number could be of either; which it is taken as
here is this model's choice (notes/assumptions/2.md). A number of 33 to 40 bits is T in its first byte and then the 32
data bits (R81). R80 and R81 give every transaction 32 data bits and the table's row for T gives them no place: that a
bare T, a number of at most 32 bits, carries the data 0 is this model's choice too (DESIGN CHOICE, the same entry). -/
def readTableWord (nbits w : Nat) : Except TableReject HostWord :=
  if 40 < nbits ∨ 2 ^ nbits ≤ w then .error .tooWide
  else if nbits ≤ 32 ∧ isCommandNumber w then .ok (.cmd (BitVec.ofNat 32 w))
  else if w.testBit 7 then .error .noSevenBitT
  else .ok (.bus (BitVec.ofNat 7 w) (BitVec.ofNat 32 (w / 256)))

/-- The instruction the decoder reads from a table word (the host's entry point). -/
def decodeTableWord (nbits w : Nat) : Option Instr :=
  match readTableWord nbits w with
  | .ok hw => some (decode hw)
  | .error _ => none

end Sys2Proof
end

