-- ==== Sys2Proof/Config.lean ====
section
/-! DEFINITION. The three parameters the spec leaves OPEN (R6): `BASE`, `IN_DEPTH`, `OUT_DEPTH`.
Each is an opaque number with no value in Lean, brought into the range R6 states, so that every legal value is
one of its possible values and nothing can be proved of it but the range. -/

namespace Sys2Proof.Config

/-- The open choice behind `BASE` (R6); no value of it can be proved. -/
opaque baseChoice : Nat

/-- The open choice behind `IN_DEPTH` (R6); no value of it can be proved. -/
opaque inDepthChoice : Nat

/-- The open choice behind `OUT_DEPTH` (R6); no value of it can be proved. -/
opaque outDepthChoice : Nat

/-- `BASE`, the bus address of offset 0x00, a multiple of 64 (R6). -/
def base : Nat := baseChoice * 64

/-- `IN_DEPTH`, the capacity of INQ: any number from 1 to 65535 (R6). -/
def inDepth : Nat := inDepthChoice % 65535 + 1

/-- `OUT_DEPTH`, the capacity of OUTQ: any number from 4 to 65535 (R6). -/
def outDepth : Nat := outDepthChoice % 65532 + 4

end Sys2Proof.Config
end

