-- ==== Sys2Proof/Machine/State.lean ====
section
/-! DEFINITION. The state of the block (10_state.md), the reasons a step can stop, and the state after reset (R202). -/

namespace Sys2Proof.Machine

/-- PHASE (R38): no operation, consuming and producing, or consuming and discarding the rest of the input. -/
inductive Phase where
  | idle | run | drain
  deriving DecidableEq, Repr

/-- The legal values of ERR_CODE; no other value is ever held (R30, R183). -/
inductive ErrCode where
  | none | illegalCmd | u8Trunc | u8Lead | b64Char
  deriving DecidableEq, Repr

/-- One step of one agent (R10, R11): a host transaction, a turn offered to the engine, or the platform's reset.
An offered turn is taken when an engine step is enabled (R122, R123) and passes without effect when none is. -/
inductive Event where
  | host (w : HostWord)
  | engine
  | reset
  deriving DecidableEq, Repr

/-- Every piece of state the spec gives the block. ID, PARAM and the reserved offsets are constants, IN_DATA and
OUT_DATA have no storage, and BUSY, ERR, IN_READY, OUT_VALID and IRQ are computed (Flags.lean). -/
structure State where
  /-- CTRL.IRQ_EN (R17). -/
  irqEn     : Bool
  /-- CMD.OPCODE (R18). -/
  cmdOpcode : BitVec 4
  /-- CMD.MODE (R18). -/
  cmdMode   : Bool
  /-- IN_LEN (R19). -/
  inLen     : Word
  /-- STATUS.DONE (R22). -/
  done      : Bool
  /-- STATUS.PERR (R26). -/
  perr      : Bool
  /-- STATUS.TAIL1 (R27). -/
  tail1     : Bool
  /-- STATUS.OVF (R28). -/
  ovf       : Bool
  /-- STATUS.LSTOP (R29). -/
  lstop     : Bool
  /-- ERR_CODE.CODE (R30). -/
  errCode   : ErrCode
  /-- ERR_POS (R31). -/
  errPos    : Word
  /-- IN_COUNT (R32). -/
  inCount   : Word
  /-- OUT_COUNT (R33). -/
  outCount  : Word
  /-- PHASE (R38). -/
  phase     : Phase
  /-- OP_L (R39). -/
  opL       : BitVec 4
  /-- MODE_L (R39). -/
  modeL     : Bool
  /-- LEN_L (R39). -/
  lenL      : Word
  /-- PUSHED (R40). -/
  pushed    : Word
  /-- INQ, oldest element first (R41). -/
  inq       : List Word
  /-- OUTQ, oldest element first (R42). -/
  outq      : List Word
  /-- ACC (R43). -/
  acc       : BitVec 24
  /-- K (R44). -/
  k         : BitVec 2
  /-- NEED (R45). -/
  need      : BitVec 2
  /-- LEAD_POS (R45). -/
  leadPos   : Word
  /-- The model's own field: the value the last read transaction returned to the host (assumption 3). -/
  rdData    : Word
  /-- The model's own field: the steps the agents take next, first one first (R57, assumption 1). -/
  pending   : List Event
  deriving DecidableEq, Repr

/-- Why the machine stops. The block itself never stops: no transaction faults it (R83). -/
inductive Fault where
  /-- Raised by the engine alone, in a state no run from reset reaches: an operation is running whose OP_L is no codec
  (R122 derives that there is none), or B64ENC runs with K = 3 (R136 leaves K at 0, 1 or 2). The spec has no rule for
  such a state. Safe: the model stops where no rule says how the hardware goes on. -/
  | engineHasNoRule
  deriving DecidableEq, Repr

/-- Why an instruction has no meaning here. -/
inductive Refusal where
  /-- Raised by an arm of `exec` whose instruction is not modelled yet; at present there is none. Safe. -/
  | notModelled (mnemonic : String)
  deriving DecidableEq, Repr

/-- The state right after reset (R202). -/
def State.reset : State where
  irqEn := false
  cmdOpcode := 0
  cmdMode := false
  inLen := 0
  done := false
  perr := false
  tail1 := false
  ovf := false
  lstop := false
  errCode := .none
  errPos := 0
  inCount := 0
  outCount := 0
  phase := .idle
  opL := 0
  modeL := false
  lenL := 0
  pushed := 0
  inq := []
  outq := []
  acc := 0
  k := 0
  need := 0
  leadPos := 0
  rdData := 0
  pending := []

end Sys2Proof.Machine
end

