-- ==== Sys2Proof/Machine/Operands.lean ====
section
/-! DEFINITION. What the engines and the registers read and write as operands: the element formats (R67 to R69), the
Base64 alphabet and its inverse (R71, R73), the UTF-8 forms (R77 to R79), the constant registers and the codecs. -/

namespace Sys2Proof.Machine

/-- The four codecs (R63), the operations the engine runs. -/
inductive Codec where
  | b64enc | b64dec | u8dec | u8enc
  deriving DecidableEq, Repr

/-- The codec an opcode starts, and an OP_L runs (R63, R122); no other opcode has one. -/
def codecOf (op : BitVec 4) : Option Codec :=
  match op.toNat with
  | 1 => some .b64enc
  | 2 => some .b64dec
  | 3 => some .u8dec
  | 4 => some .u8enc
  | _ => none

/-- The opcode of a codec (R63). -/
def opcodeFor : Codec → BitVec 4
  | .b64enc => 1
  | .b64dec => 2
  | .u8dec => 3
  | .u8enc => 4

/-- ID (R16), the ASCII codes of "HLC1". -/
def idValue : Word := 0x484C4331

/-- PARAM (R36): {OUT_DEPTH[15:0], IN_DEPTH[15:0]}. -/
def paramValue : Word := BitVec.ofNat 16 Config.outDepth ++ BitVec.ofNat 16 Config.inDepth

/-- The codes of ERR_CODE (R183). -/
def errCodeByte : ErrCode → Byte
  | .none => 0x00
  | .illegalCmd => 0x01
  | .u8Trunc => 0x02
  | .u8Lead => 0x03
  | .b64Char => 0x04

/-- A one-bit field as a bit of a word. -/
def bit (b : Bool) : BitVec 1 := BitVec.ofBool b

/-- The byte of an input element: bits 7:0, the rest ignored (R68). -/
def byteOf (e : Word) : Byte := e.setWidth 8

/-- A byte or character as an output element: zero-extended to 32 bits (R69). -/
def element (b : Byte) : Word := b.setWidth 32

/-- The code of the padding character `=` (R72). -/
def padCode : Byte := 0x3D

/-- ALPH(i), the Base64 alphabet as ASCII codes (R71). -/
def alph (i : Sextet) : Byte :=
  let v : Byte := i.setWidth 8
  if i ≤ 25 then 0x41 + v
  else if i ≤ 51 then 0x47 + v
  else if i ≤ 61 then v - 4
  else if i = 62 then 0x2B
  else 0x2F

/-- The three classes of a Base64 input character (R145). -/
inductive B64Class where
  | index (v : Sextet)
  | pad
  | unrecognized
  deriving DecidableEq, Repr

/-- INV(c), the class of each of the 256 byte values (R73). -/
def inv (c : Byte) : B64Class :=
  if 0x41 ≤ c ∧ c ≤ 0x5A then .index ((c - 0x41).setWidth 6)
  else if 0x61 ≤ c ∧ c ≤ 0x7A then .index ((c - 0x47).setWidth 6)
  else if 0x30 ≤ c ∧ c ≤ 0x39 then .index ((c + 4).setWidth 6)
  else if c = 0x2B then .index 62
  else if c = 0x2F then .index 63
  else if c = padCode then .pad
  else .unrecognized

/-- The sextet of a 24-bit group that ends at bit `lo`: G[23:18], G[17:12], G[11:6], G[5:0] for lo = 18, 12, 6, 0 (R74). -/
def groupChar (g : BitVec 24) (lo : Nat) : Word := element (alph (g.extractLsb' lo 6))

/-- The four characters of a full group (R74). -/
def fullGroupChars (g : BitVec 24) : List Word :=
  [groupChar g 18, groupChar g 12, groupChar g 6, groupChar g 0]

/-- The four characters of a group with one leftover byte b0, G = {b0, 0x00, 0x00} (R75). -/
def oneByteChars (b0 : Byte) : List Word :=
  let g : BitVec 24 := b0 ++ 0#16
  [groupChar g 18, groupChar g 12, element padCode, element padCode]

/-- The four characters of a group with two leftover bytes b0 and b1, G = {b0, b1, 0x00} (R75). -/
def twoByteChars (b0 b1 : Byte) : List Word :=
  let g : BitVec 24 := b0 ++ b1 ++ 0#8
  [groupChar g 18, groupChar g 12, groupChar g 6, element padCode]

/-- The byte of an accumulator that ends at bit `lo`, as an output element. -/
def accByte (a : BitVec 24) (lo : Nat) : Word := element (a.extractLsb' lo 8)

/-- The three bytes of a full group of sextets: G[23:16], G[15:8], G[7:0] (R76). -/
def fullGroupBytes (g : BitVec 24) : List Word := [accByte g 16, accByte g 8, accByte g 0]

/-- The bytes of a trailing group of `k` sextets in `a`: none for 0 and 1, ACC[11:4] for 2, ACC[17:10] and ACC[9:2] for
3 (R76, R151). The bits dropped are not examined (R154). -/
def tailBytes (k : BitVec 2) (a : BitVec 24) : List Word :=
  match k.toNat with
  | 2 => [accByte a 4]
  | 3 => [accByte a 10, accByte a 2]
  | _ => []

/-- ACC after a sextet is shifted in, cut to 24 bits (R147); U8DEC shifts payload bits in the same way (R162). -/
def shiftIn6 (a : BitVec 24) (v : Sextet) : BitVec 24 := (a <<< 6) ||| v.setWidth 24

/-- ACC after a byte is shifted in, cut to 24 bits (R137). -/
def shiftIn8 (a : BitVec 24) (b : Byte) : BitVec 24 := (a <<< 8) ||| b.setWidth 24

/-- The classes of a byte that arrives with NEED = 0, with the payload of a lead (R77, R78). -/
inductive LeadClass where
  | ascii (v : BitVec 7)
  | lead2 (v : BitVec 5)
  | lead3 (v : BitVec 4)
  | lead4 (v : BitVec 3)
  | invalid
  deriving DecidableEq, Repr

/-- The length a lead byte declares, by its top bits, first match first (R78, R159). -/
def classifyLead (c : Byte) : LeadClass :=
  if c.extractLsb' 7 1 = 0b0 then .ascii (c.extractLsb' 0 7)
  else if c.extractLsb' 5 3 = 0b110 then .lead2 (c.extractLsb' 0 5)
  else if c.extractLsb' 4 4 = 0b1110 then .lead3 (c.extractLsb' 0 4)
  else if c.extractLsb' 3 5 = 0b11110 then .lead4 (c.extractLsb' 0 3)
  else .invalid

/-- The payload of a continuation byte, c[5:0]; c[7:6] is not checked (R77, R164). -/
def payload (c : Byte) : Sextet := c.extractLsb' 0 6

/-- The largest value a 4-byte sequence can carry (R77). -/
def maxCodePoint : Word := 0x1FFFFF

/-- A continuation byte with the six bits of `cp` that end at bit `lo`: 0x80 | cp[lo+5:lo] (R77). -/
def contByte (cp : Word) (lo : Nat) : Word := element (0b10#2 ++ cp.extractLsb' lo 6)

/-- ENC1(cp), the UTF-8 bytes of one 32-bit value: the first length that fits (R79, R173 to R179). Only cp[20:0] are used
by the 4-byte form. -/
def utf8Bytes (cp : Word) : List Word :=
  if cp ≤ 0x7F then [element (0b0#1 ++ cp.extractLsb' 0 7)]
  else if cp ≤ 0x7FF then [element (0b110#3 ++ cp.extractLsb' 6 5), contByte cp 0]
  else if cp ≤ 0xFFFF then [element (0b1110#4 ++ cp.extractLsb' 12 4), contByte cp 6, contByte cp 0]
  else [element (0b11110#5 ++ cp.extractLsb' 18 3), contByte cp 12, contByte cp 6, contByte cp 0]

/-- The byte offset ADDR[5:0] the platform's bus puts before the block for a bus address of the window; an address
outside the window does not reach the block. R49 leaves how the platform decodes BASE outside the block: DEDUCED, log
entry 9; no step reads this map. -/
def offsetOf (a : Nat) : Option (BitVec 6) :=
  if Config.base ≤ a ∧ a < Config.base + 64 then some (BitVec.ofNat 6 a) else none

end Sys2Proof.Machine
end

