-- ==== Sys2Proof/Machine/Flags.lean ====
section
/-! DEFINITION. Every flag the spec computes and does not store: BUSY, ERR, IN_READY, OUT_VALID, the STATUS word, and the
interrupt output IRQ (R20 to R29, R46). -/

namespace Sys2Proof.Machine

/-- STATUS.BUSY (R21). -/
def State.busy (s : State) : Bool := s.phase != .idle

/-- STATUS.ERR (R23). -/
def State.err (s : State) : Bool := s.errCode != .none

/-- STATUS.IN_READY (R24). -/
def State.inReady (s : State) : Bool :=
  s.busy && decide (s.pushed < s.lenL) && decide (s.inq.length < Config.inDepth)

/-- STATUS.OUT_VALID (R25). -/
def State.outValid (s : State) : Bool := !s.outq.isEmpty

/-- IRQ, the level output (R46, R192). -/
def State.irq (s : State) : Bool := s.irqEn && s.done

/-- The word a STATUS read returns (R20, R92). -/
def State.statusWord (s : State) : Word :=
  0#23 ++ bit s.lstop ++ bit s.ovf ++ bit s.tail1 ++ bit s.perr ++ bit s.outValid ++ bit s.inReady ++ bit s.err
    ++ bit s.done ++ bit s.busy

/-- The word a CTRL read returns (R86). -/
def State.ctrlWord (s : State) : Word := 0#31 ++ bit s.irqEn

/-- The word a CMD read returns, {27'b0, MODE, OPCODE} (R88). -/
def State.cmdWord (s : State) : Word := 0#27 ++ bit s.cmdMode ++ s.cmdOpcode

/-- The word an ERR_CODE read returns (R94). -/
def State.errCodeWord (s : State) : Word := (errCodeByte s.errCode).setWidth 32

end Sys2Proof.Machine
end

