-- ==== Sys2Proof/Machine/Ops.lean ====
section
/-! DEFINITION. The named operations the rules share: queue pushes and pops, `emit` (R9), the engine error and the
protocol error (R188, R190), `complete` (R127), and the command procedures Start, ABORT, IllegalCommand and BusyCommand
(R110, R118, R119, R120). -/

namespace Sys2Proof.Machine

/-- A read transaction's returned value, held where the host takes it. -/
def respond (v : Word) (s : State) : State := { s with rdData := v }

/-- `raise ProtocolError()` (R190). -/
def raiseProtocolError (s : State) : State := { s with perr := true }

/-- `raise EngineError(code, pos)`: the first error is recorded, and the engine goes to DRAIN (R188). This is all the
exception entry the block has (R194). -/
def raiseEngineError (code : ErrCode) (pos : Word) (s : State) : State :=
  if s.errCode = .none then { s with errCode := code, errPos := pos, phase := .drain }
  else { s with phase := .drain }

/-- The host's acknowledgement, a write of ones to the W1C fields of STATUS (R93); there is no other return from an
error or an interrupt (R195). -/
def acknowledge (clearDone clearPerr : Bool) (s : State) : State :=
  { s with done := s.done && !clearDone, perr := s.perr && !clearPerr }

/-- `INQ.push(v)` with its count (R103). -/
def pushInput (v : Word) (s : State) : State := { s with inq := s.inq ++ [v], pushed := s.pushed + 1 }

/-- `INQ.pop()` with its count (R122). -/
def popInput (s : State) : State := { s with inq := s.inq.tail, inCount := s.inCount + 1 }

/-- `OUTQ.pop()` (R104). -/
def popOutput (s : State) : State := { s with outq := s.outq.tail }

/-- `emit(v)` (R9). -/
def emit (v : Word) (s : State) : State := { s with outq := s.outq ++ [v], outCount := s.outCount + 1 }

/-- `emit` of each element in the order listed (R134). -/
def emitAll (vs : List Word) (s : State) : State := vs.foldl (fun t v => emit v t) s

/-- PHASE <- DRAIN: the engine stops producing (R125). -/
def enterDrain (s : State) : State := { s with phase := .drain }

/-- ACC and K, the open group (R43, R44). -/
def setGroup (a : BitVec 24) (n : BitVec 2) (s : State) : State := { s with acc := a, k := n }

/-- ACC and NEED, the open UTF-8 sequence (R43, R45). -/
def setSequence (a : BitVec 24) (n : BitVec 2) (s : State) : State := { s with acc := a, need := n }

/-- LEAD_POS (R45). -/
def setLeadPos (pos : Word) (s : State) : State := { s with leadPos := pos }

/-- STATUS.TAIL1 <- 1 (R151). -/
def setTail1 (s : State) : State := { s with tail1 := true }

/-- STATUS.OVF <- 1 (R179). -/
def setOvf (s : State) : State := { s with ovf := true }

/-- STATUS.LSTOP <- 1 (R166, R169). -/
def setLstop (s : State) : State := { s with lstop := true }

/-- `complete()` (R127). -/
def complete (s : State) : State := { s with phase := .idle, done := true }

/-- OUTQ.free (R9). -/
def outFree (s : State) : Nat := Config.outDepth - s.outq.length

/-- OUTQ has room for `n` elements: OUTQ.free ≥ n (R122, R123). -/
def hasRoom (n : Nat) (s : State) : Bool := decide (n ≤ outFree s)

/-- What Start, IllegalCommand and ABORT clear alike (R110, R118, R119): the counters, both FIFOs, the datapath, ERR_POS
and the warning flags. -/
def clearOperation (s : State) : State :=
  { s with
    pushed := 0, inCount := 0, outCount := 0, inq := [], outq := [], acc := 0, k := 0, need := 0, leadPos := 0
    errPos := 0, tail1 := false, ovf := false, lstop := false }

/-- CMD.OPCODE and CMD.MODE (R18). -/
def setCmd (op : BitVec 4) (mode : Bool) (s : State) : State := { s with cmdOpcode := op, cmdMode := mode }

/-- OP_L, MODE_L and LEN_L (R39). -/
def setLatches (op : BitVec 4) (mode : Bool) (len : Word) (s : State) : State :=
  { s with opL := op, modeL := mode, lenL := len }

/-- PHASE, STATUS.DONE and ERR_CODE, the verdict a command leaves (R110, R118, R119). -/
def setVerdict (ph : Phase) (done : Bool) (code : ErrCode) (s : State) : State :=
  { s with phase := ph, done := done, errCode := code }

/-- Start(op, mode) (R110). -/
def start (op : BitVec 4) (mode : Bool) (s : State) : State :=
  setVerdict .run false .none (clearOperation (setLatches op mode s.inLen (setCmd op mode s)))

/-- ABORT (R118), with the mode bit CMD keeps. -/
def abortOperation (mode : Bool) (s : State) : State :=
  setVerdict .idle false .none (clearOperation (setLatches 0 false 0 (setCmd 0xF mode s)))

/-- IllegalCommand(op, mode) (R119). R119 writes the latches, where the prose of R39 names only a start command, ABORT
and reset as their writers: DEDUCED, log entry 11. -/
def illegalCommand (op : BitVec 4) (mode : Bool) (s : State) : State :=
  setVerdict .idle true .illegalCmd (clearOperation (setLatches op mode 0 (setCmd op mode s)))

/-- BusyCommand() (R120). -/
def busyCommand (s : State) : State := raiseProtocolError s

/-- A codec command: Start while idle, BusyCommand otherwise (R89). -/
def issueCodec (op : BitVec 4) (mode : Bool) (s : State) : State :=
  if s.phase = .idle then start op mode s else busyCommand s

/-- An illegal command: IllegalCommand while idle, BusyCommand otherwise (R89, R66). -/
def issueIllegal (op : BitVec 4) (mode : Bool) (s : State) : State :=
  if s.phase = .idle then illegalCommand op mode s else busyCommand s

end Sys2Proof.Machine
end

