-- ==== Sys2Proof/Machine/Commands.lean ====
section
/-! DEFINITION. The meanings of the eighteen command rows (R111 to R119): what a CMD write with that data does at once.
The operation a codec command starts is then run by the engine (Engine.lean). -/

namespace Sys2Proof.Machine

/-- NOP has no effect in any phase, and CMD keeps its value (R111). -/
def execNop (_d : Word) (s : State) : Host.Outcome State Fault Refusal := .next s

/-- B64ENC, Start(0x1, D[4]) (R112). -/
def execB64enc (d : Word) (s : State) : Host.Outcome State Fault Refusal := .next (issueCodec 0x1 (modeOf d) s)

/-- B64DEC in substitute mode, Start(0x2, 0) (R113). -/
def execB64dec (_d : Word) (s : State) : Host.Outcome State Fault Refusal := .next (issueCodec 0x2 false s)

/-- B64DEC.REJECT, Start(0x2, 1) (R114). -/
def execB64decReject (_d : Word) (s : State) : Host.Outcome State Fault Refusal := .next (issueCodec 0x2 true s)

/-- U8DEC.LENIENT, Start(0x3, 0) (R115). -/
def execU8decLenient (_d : Word) (s : State) : Host.Outcome State Fault Refusal := .next (issueCodec 0x3 false s)

/-- U8DEC.STRICT, Start(0x3, 1) (R116). -/
def execU8decStrict (_d : Word) (s : State) : Host.Outcome State Fault Refusal := .next (issueCodec 0x3 true s)

/-- U8ENC, Start(0x4, D[4]) (R117). -/
def execU8enc (d : Word) (s : State) : Host.Outcome State Fault Refusal := .next (issueCodec 0x4 (modeOf d) s)

/-- Opcode 0x5, illegal (R119). -/
def execIllegal5 (d : Word) (s : State) : Host.Outcome State Fault Refusal := .next (issueIllegal 0x5 (modeOf d) s)

/-- Opcode 0x6, illegal (R119). -/
def execIllegal6 (d : Word) (s : State) : Host.Outcome State Fault Refusal := .next (issueIllegal 0x6 (modeOf d) s)

/-- Opcode 0x7, illegal (R119). -/
def execIllegal7 (d : Word) (s : State) : Host.Outcome State Fault Refusal := .next (issueIllegal 0x7 (modeOf d) s)

/-- Opcode 0x8, illegal (R119). -/
def execIllegal8 (d : Word) (s : State) : Host.Outcome State Fault Refusal := .next (issueIllegal 0x8 (modeOf d) s)

/-- Opcode 0x9, illegal (R119). -/
def execIllegal9 (d : Word) (s : State) : Host.Outcome State Fault Refusal := .next (issueIllegal 0x9 (modeOf d) s)

/-- Opcode 0xA, illegal (R119). -/
def execIllegalA (d : Word) (s : State) : Host.Outcome State Fault Refusal := .next (issueIllegal 0xA (modeOf d) s)

/-- Opcode 0xB, illegal (R119). -/
def execIllegalB (d : Word) (s : State) : Host.Outcome State Fault Refusal := .next (issueIllegal 0xB (modeOf d) s)

/-- Opcode 0xC, illegal (R119). -/
def execIllegalC (d : Word) (s : State) : Host.Outcome State Fault Refusal := .next (issueIllegal 0xC (modeOf d) s)

/-- Opcode 0xD, illegal (R119). -/
def execIllegalD (d : Word) (s : State) : Host.Outcome State Fault Refusal := .next (issueIllegal 0xD (modeOf d) s)

/-- Opcode 0xE, illegal (R119). -/
def execIllegalE (d : Word) (s : State) : Host.Outcome State Fault Refusal := .next (issueIllegal 0xE (modeOf d) s)

/-- ABORT, in every phase (R118). -/
def execAbort (d : Word) (s : State) : Host.Outcome State Fault Refusal := .next (abortOperation (modeOf d) s)

end Sys2Proof.Machine
end

