-- ==== Sys2Proof/Machine/Registers.lean ====
section
/-! DEFINITION. The meanings of the twenty-six transaction rows (R84 to R109). The offset's low bits do not matter (R50),
so no meaning looks at `addr`. -/

namespace Sys2Proof.Machine

/-- RD ID (R84). -/
def execRdId (_addr : BitVec 6) (s : State) : Host.Outcome State Fault Refusal := .next (respond idValue s)

/-- WR ID changes nothing (R85). -/
def execWrId (_addr : BitVec 6) (_d : Word) (s : State) : Host.Outcome State Fault Refusal := .next s

/-- RD CTRL (R86). -/
def execRdCtrl (_addr : BitVec 6) (s : State) : Host.Outcome State Fault Refusal := .next (respond s.ctrlWord s)

/-- WR CTRL: IRQ_EN <- D[0], D[31:1] ignored (R87). -/
def execWrCtrl (_addr : BitVec 6) (d : Word) (s : State) : Host.Outcome State Fault Refusal :=
  .next { s with irqEn := d.getLsbD 0 }

/-- RD CMD (R88). -/
def execRdCmd (_addr : BitVec 6) (s : State) : Host.Outcome State Fault Refusal := .next (respond s.cmdWord s)

/-- WR CMD issues the command in D[4:0] (R89): NOP and ABORT first, then busy, then a start or an illegal command. -/
def execWrCmd (_addr : BitVec 6) (d : Word) (s : State) : Host.Outcome State Fault Refusal :=
  let op := opcodeOf d
  let mode := modeOf d
  if op = 0x0 then .next s
  else if op = 0xF then .next (abortOperation mode s)
  else if s.phase ≠ .idle then .next (busyCommand s)
  else if op ≤ 0x4 then .next (start op mode s)
  else .next (illegalCommand op mode s)

/-- RD IN_LEN (R90). -/
def execRdInLen (_addr : BitVec 6) (s : State) : Host.Outcome State Fault Refusal := .next (respond s.inLen s)

/-- WR IN_LEN, a protocol error while an operation runs (R91). -/
def execWrInLen (_addr : BitVec 6) (d : Word) (s : State) : Host.Outcome State Fault Refusal :=
  .next (if s.phase = .idle then { s with inLen := d } else raiseProtocolError s)

/-- RD STATUS, a snapshot (R92). -/
def execRdStatus (_addr : BitVec 6) (s : State) : Host.Outcome State Fault Refusal := .next (respond s.statusWord s)

/-- WR STATUS: D[1] clears DONE, D[5] clears PERR, all other bits ignored (R93). -/
def execWrStatus (_addr : BitVec 6) (d : Word) (s : State) : Host.Outcome State Fault Refusal :=
  .next (acknowledge (d.getLsbD 1) (d.getLsbD 5) s)

/-- RD ERR_CODE (R94). -/
def execRdErrCode (_addr : BitVec 6) (s : State) : Host.Outcome State Fault Refusal := .next (respond s.errCodeWord s)

/-- WR ERR_CODE changes nothing (R95). -/
def execWrErrCode (_addr : BitVec 6) (_d : Word) (s : State) : Host.Outcome State Fault Refusal := .next s

/-- RD ERR_POS (R96). -/
def execRdErrPos (_addr : BitVec 6) (s : State) : Host.Outcome State Fault Refusal := .next (respond s.errPos s)

/-- WR ERR_POS changes nothing (R97). -/
def execWrErrPos (_addr : BitVec 6) (_d : Word) (s : State) : Host.Outcome State Fault Refusal := .next s

/-- RD IN_COUNT (R98). -/
def execRdInCount (_addr : BitVec 6) (s : State) : Host.Outcome State Fault Refusal := .next (respond s.inCount s)

/-- WR IN_COUNT changes nothing (R99). -/
def execWrInCount (_addr : BitVec 6) (_d : Word) (s : State) : Host.Outcome State Fault Refusal := .next s

/-- RD OUT_COUNT (R100). -/
def execRdOutCount (_addr : BitVec 6) (s : State) : Host.Outcome State Fault Refusal := .next (respond s.outCount s)

/-- WR OUT_COUNT changes nothing (R101). -/
def execWrOutCount (_addr : BitVec 6) (_d : Word) (s : State) : Host.Outcome State Fault Refusal := .next s

/-- RD IN_DATA returns 0 and touches nothing (R102). -/
def execRdInData (_addr : BitVec 6) (s : State) : Host.Outcome State Fault Refusal := .next (respond 0 s)

/-- WR IN_DATA offers one input element: accepted when IN_READY, else dropped with a protocol error (R103). -/
def execWrInData (_addr : BitVec 6) (d : Word) (s : State) : Host.Outcome State Fault Refusal :=
  .next (if s.inReady then pushInput d s else raiseProtocolError s)

/-- RD OUT_DATA pops the oldest output element; with OUTQ empty it returns 0 and is a protocol error (R104). -/
def execRdOutData (_addr : BitVec 6) (s : State) : Host.Outcome State Fault Refusal :=
  match s.outq with
  | v :: _ => .next (respond v (popOutput s))
  | [] => .next (respond 0 (raiseProtocolError s))

/-- WR OUT_DATA changes nothing (R105). -/
def execWrOutData (_addr : BitVec 6) (_d : Word) (s : State) : Host.Outcome State Fault Refusal := .next s

/-- RD PARAM (R106). -/
def execRdParam (_addr : BitVec 6) (s : State) : Host.Outcome State Fault Refusal := .next (respond paramValue s)

/-- WR PARAM changes nothing (R107). -/
def execWrParam (_addr : BitVec 6) (_d : Word) (s : State) : Host.Outcome State Fault Refusal := .next s

/-- RD of a reserved offset returns 0 (R108). -/
def execRdReserved (_addr : BitVec 6) (s : State) : Host.Outcome State Fault Refusal := .next (respond 0 s)

/-- WR of a reserved offset changes nothing (R109). -/
def execWrReserved (_addr : BitVec 6) (_d : Word) (s : State) : Host.Outcome State Fault Refusal := .next s

end Sys2Proof.Machine
end

