-- ==== Sys2Proof/Machine/Dispatch.lean ====
section
/-! DEFINITION. One arm per instruction, each one direct call of its meaning. -/

namespace Sys2Proof.Machine

def exec (i : Instr) (s : State) : Host.Outcome State Fault Refusal :=
  match i with
  | .rdId addr => Sys2Proof.Machine.execRdId addr s
  | .wrId addr d => Sys2Proof.Machine.execWrId addr d s
  | .rdCtrl addr => Sys2Proof.Machine.execRdCtrl addr s
  | .wrCtrl addr d => Sys2Proof.Machine.execWrCtrl addr d s
  | .rdCmd addr => Sys2Proof.Machine.execRdCmd addr s
  | .wrCmd addr d => Sys2Proof.Machine.execWrCmd addr d s
  | .rdInLen addr => Sys2Proof.Machine.execRdInLen addr s
  | .wrInLen addr d => Sys2Proof.Machine.execWrInLen addr d s
  | .rdStatus addr => Sys2Proof.Machine.execRdStatus addr s
  | .wrStatus addr d => Sys2Proof.Machine.execWrStatus addr d s
  | .rdErrCode addr => Sys2Proof.Machine.execRdErrCode addr s
  | .wrErrCode addr d => Sys2Proof.Machine.execWrErrCode addr d s
  | .rdErrPos addr => Sys2Proof.Machine.execRdErrPos addr s
  | .wrErrPos addr d => Sys2Proof.Machine.execWrErrPos addr d s
  | .rdInCount addr => Sys2Proof.Machine.execRdInCount addr s
  | .wrInCount addr d => Sys2Proof.Machine.execWrInCount addr d s
  | .rdOutCount addr => Sys2Proof.Machine.execRdOutCount addr s
  | .wrOutCount addr d => Sys2Proof.Machine.execWrOutCount addr d s
  | .rdInData addr => Sys2Proof.Machine.execRdInData addr s
  | .wrInData addr d => Sys2Proof.Machine.execWrInData addr d s
  | .rdOutData addr => Sys2Proof.Machine.execRdOutData addr s
  | .wrOutData addr d => Sys2Proof.Machine.execWrOutData addr d s
  | .rdParam addr => Sys2Proof.Machine.execRdParam addr s
  | .wrParam addr d => Sys2Proof.Machine.execWrParam addr d s
  | .rdReserved addr => Sys2Proof.Machine.execRdReserved addr s
  | .wrReserved addr d => Sys2Proof.Machine.execWrReserved addr d s
  | .nop d => Sys2Proof.Machine.execNop d s
  | .b64enc d => Sys2Proof.Machine.execB64enc d s
  | .b64dec d => Sys2Proof.Machine.execB64dec d s
  | .b64decReject d => Sys2Proof.Machine.execB64decReject d s
  | .u8decLenient d => Sys2Proof.Machine.execU8decLenient d s
  | .u8decStrict d => Sys2Proof.Machine.execU8decStrict d s
  | .u8enc d => Sys2Proof.Machine.execU8enc d s
  | .illegal5 d => Sys2Proof.Machine.execIllegal5 d s
  | .illegal6 d => Sys2Proof.Machine.execIllegal6 d s
  | .illegal7 d => Sys2Proof.Machine.execIllegal7 d s
  | .illegal8 d => Sys2Proof.Machine.execIllegal8 d s
  | .illegal9 d => Sys2Proof.Machine.execIllegal9 d s
  | .illegalA d => Sys2Proof.Machine.execIllegalA d s
  | .illegalB d => Sys2Proof.Machine.execIllegalB d s
  | .illegalC d => Sys2Proof.Machine.execIllegalC d s
  | .illegalD d => Sys2Proof.Machine.execIllegalD d s
  | .illegalE d => Sys2Proof.Machine.execIllegalE d s
  | .abort d => Sys2Proof.Machine.execAbort d s

end Sys2Proof.Machine
end

