-- ==== Sys2Proof/Machine/Base64Decode.lean ====
section
/-! DEFINITION. The Base64 decoder's engine steps, substitute and reject mode (43_base64_decode.md). -/

namespace Sys2Proof.Machine

/-- A sextet joins the open group; the fourth one emits the group's three bytes (R147, R148). -/
def b64dSextet (v : Sextet) (s : State) : State :=
  if s.k = 3 then setGroup 0 0 (emitAll (fullGroupBytes (s.acc.extractLsb' 0 18 ++ v)) s)
  else setGroup (shiftIn6 s.acc v) (s.k + 1) s

/-- Flush(): close the open group; a group of one character sets TAIL1 and gives no byte (R151, R153). -/
def b64dFlush (s : State) : State :=
  setGroup 0 0 (if s.k = 1 then setTail1 s else emitAll (tailBytes s.k s.acc) s)

/-- B64D_consume(e, pos): PAD ends the data (R146), an index is shifted in (R147, R148), an unrecognized character is
index 0 in substitute mode (R149) and an engine error in reject mode (R150). -/
def b64dConsume (e pos : Word) (s : State) : State :=
  match inv (byteOf e) with
  | .pad => enterDrain (b64dFlush s)
  | .index v => b64dSextet v s
  | .unrecognized =>
    if s.modeL then raiseEngineError .b64Char pos (setGroup 0 0 s) else b64dSextet 0 s

/-- B64D_final(): end of the text with no PAD seen (R152). -/
def b64dFinal (s : State) : State := complete (b64dFlush s)

/-- F(K) of R124: the bytes a trailing group of K sextets gives. -/
def b64dTailCount (k : BitVec 2) : Nat :=
  match k.toNat with
  | 2 => 1
  | 3 => 2
  | _ => 0

/-- How many elements a consume step emits (R124). -/
def b64dConsumeCount (e : Word) (s : State) : Nat :=
  match inv (byteOf e) with
  | .pad => b64dTailCount s.k
  | .index _ => if s.k = 3 then 3 else 0
  | .unrecognized => if s.modeL then 0 else if s.k = 3 then 3 else 0

/-- How many elements the final step emits (R124). -/
def b64dFinalCount (s : State) : Nat := b64dTailCount s.k

end Sys2Proof.Machine
end

