-- ==== Sys2Proof/Machine/Base64Encode.lean ====
section
/-! DEFINITION. The Base64 encoder's engine steps (42_base64_encode.md). `none` is a state no rule covers: K = 3, which
R136 excludes. -/

namespace Sys2Proof.Machine

/-- B64E_consume(e): take the byte into the open group, or emit the full group (R137, R138). -/
def b64eConsume (e : Word) (s : State) : Option State :=
  match s.k.toNat with
  | 0 | 1 => some (setGroup (shiftIn8 s.acc (byteOf e)) (s.k + 1) s)
  | 2 => some (setGroup 0 0 (emitAll (fullGroupChars (s.acc.extractLsb' 0 16 ++ byteOf e)) s))
  | _ => none

/-- B64E_final(): no partial group, one leftover byte or two (R139, R140, R141). -/
def b64eFinal (s : State) : Option State :=
  match s.k.toNat with
  | 0 => some (complete s)
  | 1 => some (complete (setGroup 0 0 (emitAll (oneByteChars (s.acc.extractLsb' 0 8)) s)))
  | 2 => some (complete (setGroup 0 0
      (emitAll (twoByteChars (s.acc.extractLsb' 8 8) (s.acc.extractLsb' 0 8)) s)))
  | _ => none

/-- How many elements a consume step emits (R124). -/
def b64eConsumeCount (s : State) : Option Nat :=
  match s.k.toNat with
  | 0 | 1 => some 0
  | 2 => some 4
  | _ => none

/-- How many elements the final step emits (R124). -/
def b64eFinalCount (s : State) : Option Nat :=
  match s.k.toNat with
  | 0 => some 0
  | 1 | 2 => some 4
  | _ => none

end Sys2Proof.Machine
end

