-- ==== Sys2Proof/Machine/Utf8Decode.lean ====
section
/-! DEFINITION. The UTF-8 decoder's engine steps, lenient and strict (44_utf8_decode.md). -/

namespace Sys2Proof.Machine

/-- A multi-byte lead starts a sequence: its payload, the continuation bytes to come, its index (R161). -/
def u8dLead {w : Nat} (v : BitVec w) (n : BitVec 2) (pos : Word) (s : State) : State :=
  setLeadPos pos (setSequence (v.setWidth 24) n s)

/-- A byte with NEED = 0 that is no lead: an error in strict mode, a silent stop in lenient mode (R165, R166). -/
def u8dInvalidLead (pos : Word) (s : State) : State :=
  if s.modeL then raiseEngineError .u8Lead pos s else enterDrain (setLstop s)

/-- A byte with NEED = 0, the source's `Start` (R159 to R161, R165, R166). -/
def u8dStart (c : Byte) (pos : Word) (s : State) : State :=
  match classifyLead c with
  | .ascii v => emit (element (0#1 ++ v)) s
  | .lead2 v => u8dLead v 1 pos s
  | .lead3 v => u8dLead v 2 pos s
  | .lead4 v => u8dLead v 3 pos s
  | .invalid => u8dInvalidLead pos s

/-- A byte with NEED > 0, the next continuation byte by position; the last one gives the code point (R162 to R164). -/
def u8dContinue (c : Byte) (s : State) : State :=
  let a := shiftIn6 s.acc (payload c)
  if s.need = 1 then setSequence 0 0 (emit (a.setWidth 32) s)
  else setSequence a (s.need - 1) s

/-- U8D_consume(e, pos). -/
def u8dConsume (e pos : Word) (s : State) : State :=
  if s.need = 0 then u8dStart (byteOf e) pos s else u8dContinue (byteOf e) s

/-- U8D_final(): the input ended between sequences (R167), or inside one, an error in strict mode (R168) and a silent
stop in lenient mode (R169). -/
def u8dFinal (s : State) : State :=
  if s.need = 0 then complete s
  else if s.modeL then complete (raiseEngineError .u8Trunc s.leadPos (setSequence 0 0 s))
  else complete (setLstop (setSequence 0 0 s))

/-- How many elements a consume step emits (R124). -/
def u8dConsumeCount (e : Word) (s : State) : Nat :=
  match s.need.toNat with
  | 0 => if (byteOf e).extractLsb' 7 1 = 0 then 1 else 0
  | 1 => 1
  | _ => 0

end Sys2Proof.Machine
end

