-- ==== Sys2Proof/Machine/Utf8Encode.lean ====
section
/-! DEFINITION. The UTF-8 encoder's engine steps (45_utf8_encode.md). -/

namespace Sys2Proof.Machine

/-- U8E_consume(e): the bytes of one code point, and OVF for a value above 0x1FFFFF (R174 to R179). -/
def u8eConsume (e : Word) (s : State) : State :=
  let t := emitAll (utf8Bytes e) s
  if maxCodePoint < e then setOvf t else t

/-- U8E_final() (R180). -/
def u8eFinal (s : State) : State := complete s

/-- How many elements a consume step emits (R124). -/
def u8eConsumeCount (e : Word) : Nat :=
  if e ≤ 0x7F then 1 else if e ≤ 0x7FF then 2 else if e ≤ 0xFFFF then 3 else 4

end Sys2Proof.Machine
end

