-- ==== Sys2Proof/Machine/Engine.lean ====
section
/-! DEFINITION. Engine sequencing (41_engine.md): when a consume step or the final step is enabled, what it does, and the
turn an engine takes or lets pass. -/

namespace Sys2Proof.Machine

/-- Econs: the elements a consume step emits for the element `e` at the head of INQ (R124); `none` where the table has no
row. -/
def consumeCount (e : Word) (s : State) : Option Nat :=
  if s.phase = .drain then some 0
  else match codecOf s.opL with
    | some .b64enc => b64eConsumeCount s
    | some .b64dec => some (b64dConsumeCount e s)
    | some .u8dec => some (u8dConsumeCount e s)
    | some .u8enc => some (u8eConsumeCount e)
    | none => none

/-- Efin: the elements the final step emits (R124). -/
def finalCount (s : State) : Option Nat :=
  if s.phase = .drain then some 0
  else match codecOf s.opL with
    | some .b64enc => b64eFinalCount s
    | some .b64dec => some (b64dFinalCount s)
    | some .u8dec | some .u8enc => some 0
    | none => none

/-- What a consume step does with its element after popping it (R122); DRAIN discards it (R125). `pos` is the element's
index, IN_COUNT before the step. -/
def consumeEffect (e pos : Word) (s : State) : Option State :=
  if s.phase = .drain then some s
  else match codecOf s.opL with
    | some .b64enc => b64eConsume e s
    | some .b64dec => some (b64dConsume e pos s)
    | some .u8dec => some (u8dConsume e pos s)
    | some .u8enc => some (u8eConsume e s)
    | none => none

/-- What the final step does (R123); in DRAIN it only completes (R126). -/
def finalEffect (s : State) : Option State :=
  if s.phase = .drain then some (complete s)
  else match codecOf s.opL with
    | some .b64enc => b64eFinal s
    | some .b64dec => some (b64dFinal s)
    | some .u8dec => some (u8dFinal s)
    | some .u8enc => some (u8eFinal s)
    | none => none

/-- A step of the engine, or the fault of a state no rule covers. -/
def engineResult : Option State → Host.Outcome State Fault Refusal
  | some s => .next s
  | none => .fault .engineHasNoRule

/-- The consume step on the head `e` of INQ, when OUTQ has room for all it emits; else the engine waits (R122). -/
def consumeTurn (e : Word) (s : State) : Host.Outcome State Fault Refusal :=
  match consumeCount e s with
  | none => .fault .engineHasNoRule
  | some n => if hasRoom n s then engineResult (consumeEffect e s.inCount (popInput s)) else .next s

/-- The final step, when OUTQ has room for all it emits; else the engine waits (R123). -/
def finalTurn (s : State) : Host.Outcome State Fault Refusal :=
  match finalCount s with
  | none => .fault .engineHasNoRule
  | some n => if hasRoom n s then engineResult (finalEffect s) else .next s

/-- A turn of the engine: the one engine step that is enabled, or none (R121). It waits while the block is idle (R133),
while INQ is empty before the last element, and while OUTQ has no room (R215). A turn taken then passes without effect: DESIGN CHOICE, log entry 4. -/
def engineTurn (s : State) : Host.Outcome State Fault Refusal :=
  if s.phase = .idle then .next s
  else if s.inCount < s.lenL then
    match s.inq with
    | [] => .next s
    | e :: _ => consumeTurn e s
  else if s.inCount = s.lenL then finalTurn s
  else .next s

end Sys2Proof.Machine
end

