-- ==== Sys2Proof/Machine/Step.lean ====
section
/-! DEFINITION. One step of the block (R10): the step of the agent that moves next. -/

namespace Sys2Proof.Machine

/-- The first entry of `pending` moves: a host transaction decodes and runs (R83), the engine takes the turn it is offered
(R121), or the platform resets the block (R201); what is still pending stays pending. With nothing pending the engine has
the turn, which is the fairness of R218: an enabled engine step is taken when no other agent moves. -/
def step (s : State) : Host.Outcome State Fault Refusal :=
  match s.pending with
  | [] => engineTurn s
  | .host w :: rest => exec (decode w) { s with pending := rest }
  | .engine :: rest => engineTurn { s with pending := rest }
  | .reset :: rest => .next { State.reset with pending := rest }

/-- `s` with a host word as its very next step. -/
def State.withNext (s : State) (w : HostWord) : State := { s with pending := .host w :: s.pending }

/-- `s` with a table word as its very next step (the host's entry point); a number that is no table word places
nothing. -/
def State.withFetchWord (s : State) (nbits w : Nat) : State :=
  match readTableWord nbits w with
  | .ok hw => s.withNext hw
  | .error _ => s

end Sys2Proof.Machine
end

