-- ==== Sys2Proof/Machine/Outcome.lean ====
section
/-! DEFINITION. The operation functions: what each codec computes over its whole input, apart from any step (R128): B64E
(R135), B64D (R143), U8D (R157), U8E (R173). The engine's steps do not use them; that the engine computes them is a claim. -/

namespace Sys2Proof.Machine

/-- The outcome of an operation (R128): the elements emitted, ERR_CODE and ERR_POS, and the three warning flags. -/
structure Verdict where
  emitted : List Word
  code    : ErrCode
  pos     : Word
  tail1   : Bool
  ovf     : Bool
  lstop   : Bool
  deriving DecidableEq, Repr

/-- A verdict without error and without warning. -/
def Verdict.plain (out : List Word) : Verdict := ⟨out, .none, 0, false, false, false⟩

/-- A verdict that is an error at an input index (R183). -/
def Verdict.failed (out : List Word) (code : ErrCode) (i : Nat) : Verdict :=
  ⟨out, code, BitVec.ofNat 32 i, false, false, false⟩

/-- A verdict of a lenient stop (R157). -/
def Verdict.stopped (out : List Word) : Verdict := ⟨out, .none, 0, false, false, true⟩

/-- The characters of B64E(x): three bytes at a time, then the tail (R135). -/
def b64eChars : List Word → List Word
  | a :: b :: c :: rest => fullGroupChars (byteOf a ++ byteOf b ++ byteOf c) ++ b64eChars rest
  | [a, b] => twoByteChars (byteOf a) (byteOf b)
  | [a] => oneByteChars (byteOf a)
  | [] => []

/-- B64E(x) (R135). -/
def b64eFunction (x : List Word) : Verdict := .plain (b64eChars x)

/-- The end of B64D: the tail's bytes, or TAIL1 (R143). -/
def b64dEnd (acc : BitVec 24) (k : BitVec 2) (out : List Word) : Verdict :=
  { Verdict.plain (out ++ tailBytes k acc) with tail1 := k == 1 }

/-- The loop of B64D from input index `i` (R143). -/
def b64dLoop (m : Bool) : List Word → Nat → BitVec 24 → BitVec 2 → List Word → Verdict
  | [], _, acc, k, out => b64dEnd acc k out
  | e :: rest, i, acc, k, out =>
    match inv (byteOf e) with
    | .pad => b64dEnd acc k out
    | .index v =>
      if k = 3 then b64dLoop m rest (i + 1) 0 0 (out ++ fullGroupBytes (shiftIn6 acc v))
      else b64dLoop m rest (i + 1) (shiftIn6 acc v) (k + 1) out
    | .unrecognized =>
      if m then .failed out .b64Char i
      else if k = 3 then b64dLoop m rest (i + 1) 0 0 (out ++ fullGroupBytes (shiftIn6 acc 0))
      else b64dLoop m rest (i + 1) (shiftIn6 acc 0) (k + 1) out

/-- B64D(m, x), m true for reject (R143). -/
def b64dFunction (m : Bool) (x : List Word) : Verdict := b64dLoop m x 0 0 0 []

/-- The loop of U8D from input index `i`; `lp` is the index of the open sequence's lead (R157). -/
def u8dLoop (m : Bool) : List Word → Nat → BitVec 24 → Nat → Nat → List Word → Verdict
  | [], _, _, need, lp, out =>
    if need = 0 then .plain out else if m then .failed out .u8Trunc lp else .stopped out
  | e :: rest, i, acc, 0, lp, out =>
    match classifyLead (byteOf e) with
    | .ascii v => u8dLoop m rest (i + 1) acc 0 lp (out ++ [v.setWidth 32])
    | .lead2 v => u8dLoop m rest (i + 1) (v.setWidth 24) 1 i out
    | .lead3 v => u8dLoop m rest (i + 1) (v.setWidth 24) 2 i out
    | .lead4 v => u8dLoop m rest (i + 1) (v.setWidth 24) 3 i out
    | .invalid => if m then .failed out .u8Lead i else .stopped out
  | e :: rest, i, acc, 1, lp, out =>
    u8dLoop m rest (i + 1) 0 0 lp (out ++ [(shiftIn6 acc (payload (byteOf e))).setWidth 32])
  | e :: rest, i, acc, need + 1, lp, out =>
    u8dLoop m rest (i + 1) (shiftIn6 acc (payload (byteOf e))) need lp out

/-- U8D(m, x), m true for strict (R157). -/
def u8dFunction (m : Bool) (x : List Word) : Verdict := u8dLoop m x 0 0 0 0 []

/-- U8E(x) (R173). -/
def u8eFunction (x : List Word) : Verdict :=
  { Verdict.plain (x.flatMap utf8Bytes) with ovf := x.any (fun cp => decide (maxCodePoint < cp)) }

/-- The operation function of a codec and mode (R128). -/
def operation : Codec → Bool → List Word → Verdict
  | .b64enc, _ => b64eFunction
  | .b64dec, m => b64dFunction m
  | .u8dec, m => u8dFunction m
  | .u8enc, _ => u8eFunction

end Sys2Proof.Machine
end

