-- ==== Sys2Proof/Safety.lean ====
section
/-! DEFINITION. What the claims are stated in: the invariant of the block (the relations the spec derives between its
pieces of state), and runs of an operation with the elements accepted and emitted on the way. -/

namespace Sys2Proof.Machine

/-- The FIFOs and counters (R32, R40, R41, R42): within their capacities, and IN_COUNT + INQ.count = PUSHED ≤ LEN_L. -/
structure QueuesOk (s : State) : Prop where
  inqFits   : s.inq.length ≤ Config.inDepth
  outqFits  : s.outq.length ≤ Config.outDepth
  counted   : s.inCount.toNat + s.inq.length = s.pushed.toNat
  pushedLe  : s.pushed.toNat ≤ s.lenL.toNat
  idleEmpty : s.phase = .idle → s.inq = []

/-- The control registers: while an operation runs, OP_L is a codec (R122), DONE is 0 (R93), IN_LEN = LEN_L (R90), CMD is
the running command, and only the decoders drain. -/
structure ControlOk (s : State) : Prop where
  busyOp      : s.phase ≠ .idle → ∃ c, codecOf s.opL = some c
  busyNotDone : s.phase ≠ .idle → s.done = false
  busyLen     : s.phase ≠ .idle → s.lenL = s.inLen
  busyCmd     : s.phase ≠ .idle → s.cmdOpcode = s.opL ∧ s.cmdMode = s.modeL
  drainOp     : s.phase = .drain → codecOf s.opL = some .b64dec ∨ codecOf s.opL = some .u8dec

/-- The error record and the warning flags (R31, R183, R191, R193): each belongs to its operation and mode, none stands
beside another, and an operation still producing has neither an error nor a stop. -/
structure RecordOk (s : State) : Prop where
  runClean : s.phase = .run → s.errCode = .none ∧ s.tail1 = false ∧ s.lstop = false
  posZero  : s.errCode = .none ∨ s.errCode = .illegalCmd → s.errPos = 0
  utf8Err  : s.errCode = .u8Trunc ∨ s.errCode = .u8Lead → codecOf s.opL = some .u8dec ∧ s.modeL = true
  b64Err   : s.errCode = .b64Char → codecOf s.opL = some .b64dec ∧ s.modeL = true
  illegal  : s.errCode = .illegalCmd → s.phase = .idle ∧ codecOf s.opL = none
  tail1Of  : s.tail1 = true → codecOf s.opL = some .b64dec ∧ s.errCode = .none
  ovfOf    : s.ovf = true → codecOf s.opL = some .u8enc ∧ s.errCode = .none
  lstopOf  : s.lstop = true → codecOf s.opL = some .u8dec ∧ s.modeL = false ∧ s.errCode = .none

/-- The datapath of a producing operation: ACC holds no more than the K bytes or sextets of the open group, or the payload
read so far (R136, R144, R158, R174); a draining one has nothing open. -/
structure DatapathOk (s : State) : Prop where
  encode : s.phase = .run → codecOf s.opL = some .b64enc → s.k.toNat ≤ 2 ∧ s.acc.toNat < 2 ^ (8 * s.k.toNat)
  decode : s.phase = .run → codecOf s.opL = some .b64dec → s.acc.toNat < 2 ^ (6 * s.k.toNat)
  utf8   : s.phase = .run → codecOf s.opL = some .u8dec →
    (s.need = 0 → s.acc = 0) ∧ (s.need ≠ 0 → s.acc.toNat < 2 ^ (21 - 6 * s.need.toNat))
  base64 : s.phase ≠ .idle → codecOf s.opL = some .b64enc ∨ codecOf s.opL = some .b64dec →
    s.need = 0 ∧ s.leadPos = 0
  utf8K  : s.phase ≠ .idle → codecOf s.opL = some .u8dec → s.k = 0
  u8enc  : s.phase ≠ .idle → codecOf s.opL = some .u8enc →
    s.acc = 0 ∧ s.k = 0 ∧ s.need = 0 ∧ s.leadPos = 0
  drain  : s.phase = .drain → s.acc = 0 ∧ s.k = 0 ∧ s.need = 0

/-- What waits in OUTQ (R69, R172): bytes, or code points of at most 0x1FFFFF. -/
structure OutputOk (s : State) : Prop where
  codePoint : ∀ v ∈ s.outq, v.toNat ≤ 0x1FFFFF
  byte      : codecOf s.opL ≠ some .u8dec → ∀ v ∈ s.outq, v.toNat < 256

/-- The invariant of the block. -/
structure Inv (s : State) : Prop where
  queues   : QueuesOk s
  control  : ControlOk s
  record   : RecordOk s
  datapath : DatapathOk s
  output   : OutputOk s

/-- The next step is the engine's turn. -/
def engineMoves (s : State) : Bool :=
  match s.pending with
  | [] => true
  | .engine :: _ => true
  | _ => false

/-- The input elements a step from `s` to `t` accepts: what a host transaction adds to INQ (R103). -/
def acceptedBy (s t : State) : List Word := if engineMoves s then [] else t.inq.drop s.inq.length

/-- The output elements a step from `s` to `t` emits: what an engine step adds to OUTQ (R42). -/
def emittedBy (s t : State) : List Word := if engineMoves s then t.outq.drop s.outq.length else []

/-- `OpRun s x y t`: steps lead from `s` to `t`, an operation running in every state before `t`; `x` are the elements
accepted and `y` the elements emitted on the way, in order. `pending` of `s` may hold any interleaving of agents. -/
inductive OpRun (s : State) : List Word → List Word → State → Prop
  | start : OpRun s [] [] s
  | next {x y : List Word} {t u : State} : OpRun s x y t → t.phase ≠ .idle → step t = .next u →
      OpRun s (x ++ acceptedBy t u) (y ++ emittedBy t u) u

/-- The codec and mode a command row starts (R112 to R117). -/
def startsCodec : Instr → Option (Codec × Bool)
  | .b64enc d => some (.b64enc, modeOf d)
  | .b64dec _ => some (.b64dec, false)
  | .b64decReject _ => some (.b64dec, true)
  | .u8decLenient _ => some (.u8dec, false)
  | .u8decStrict _ => some (.u8dec, true)
  | .u8enc d => some (.u8enc, modeOf d)
  | _ => none

/-- A write of `d` to IN_DATA, as a step of the host (R82, `PUSH`). -/
def pushEvent (d : Word) : Event := .host (writeWord 0x24 d)

/-- A read of OUT_DATA, as a step of the host (R82, `POP`). -/
def popEvent : Event := .host (readWord 0x28)

/-- A host that follows the protocol of R206 over the input `x`: it pushes each element, lets the engine step, and takes
up to four output elements; then the engine has its final step. -/
def protocolEvents (x : List Word) : List Event :=
  x.flatMap (fun e => [pushEvent e, .engine, popEvent, popEvent, popEvent, popEvent]) ++ [.engine]

/-- Every transaction word that fits a read row decodes to the row's instruction with its offset (R80, R83). -/
def readRow (pattern mask : BitVec 7) (c : BitVec 6 → Instr) : Prop :=
  ∀ (t : BitVec 7) (d : Word), t &&& mask = pattern → decode (.bus t d) = c (t.extractLsb' 0 6)

/-- Every transaction word that fits a write row decodes to the row's instruction with its offset and data (R80, R83). -/
def writeRow (pattern mask : BitVec 7) (c : BitVec 6 → Word → Instr) : Prop :=
  ∀ (t : BitVec 7) (d : Word), t &&& mask = pattern → decode (.bus t d) = c (t.extractLsb' 0 6) d

/-- Every command word whose bits 4:0 fit a command row decodes to the row's instruction (R62, R80). -/
def commandRow (pattern mask : BitVec 5) (c : Word → Instr) : Prop :=
  ∀ d : Word, d.extractLsb' 0 5 &&& mask = pattern → decode (.cmd d) = c d

/-- The data a host word writes to CMD, if it does: a command word, or a write whose T fits WR CMD (R89, R82). -/
def commandData : HostWord → Option Word
  | .cmd d => some d
  | .bus t d => if t &&& 0x7C = 0x48 then some d else none

/-- The next step is a CMD write with data `d`. -/
def commandNext (s : State) (d : Word) : Prop := ∃ w rest, s.pending = .host w :: rest ∧ commandData w = some d

/-- The next step is a bus transaction whose T fits `pattern` under the mask 0x7C of one register, with data `d`. -/
def busNext (s : State) (pattern : BitVec 7) (d : Word) : Prop :=
  ∃ t rest, s.pending = .host (.bus t d) :: rest ∧ t &&& 0x7C = pattern

/-- The next step is the platform's reset. -/
def resetNext (s : State) : Prop := ∃ rest, s.pending = .reset :: rest

/-- A consume step of the codec with opcode `op` has its element `e` at the head of INQ, `rest` behind it (R122). -/
def consumeReady (op : BitVec 4) (e : Word) (rest : List Word) (s : State) : Prop :=
  s.phase = .run ∧ s.opL = op ∧ s.inCount < s.lenL ∧ s.inq = e :: rest

/-- The codec with opcode `op` has consumed all its elements and not yet completed (R123). -/
def finalReady (op : BitVec 4) (s : State) : Prop := s.phase = .run ∧ s.opL = op ∧ s.inCount = s.lenL

/-- OUTQ has room for `n` more elements (R122). -/
def room (n : Nat) (s : State) : Prop := s.outq.length + n ≤ Config.outDepth

/-- The four events that are protocol errors (R189). -/
def protocolErrorNext (s : State) : Prop :=
  (∃ d, busNext s 0x64 d ∧ s.inReady = false) ∨
  (∃ d, busNext s 0x28 d ∧ s.outq = []) ∨
  (∃ d, busNext s 0x4C d ∧ s.phase ≠ .idle) ∨
  (∃ d, commandNext s d ∧ opcodeOf d ≠ 0x0 ∧ opcodeOf d ≠ 0xF ∧ s.phase ≠ .idle)

/-- The next step is a CMD write that the block does not ignore and that is no NOP (R89): ABORT, or a start or an illegal
command while idle. -/
def actingCommandNext (s : State) (d : Word) : Prop :=
  commandNext s d ∧ opcodeOf d ≠ 0x0 ∧ (opcodeOf d = 0xF ∨ s.phase = .idle)

end Sys2Proof.Machine
end

