-- ==== Sys2Proof/WellFormed.lean ====
section
/-! DEFINITION. Which instruction terms the encodings admit: a transaction's offset lies in its register (R15, R80), and
a command's data word has the OPCODE, and for B64DEC and U8DEC the MODE, of its row (R63, R64). -/

namespace Sys2Proof

/-- The check on a transaction: ADDR[5:2] names the register (R83). -/
def addresses (r : Reg) (addr : BitVec 6) : Bool := regAt addr == r

/-- The check on a command whose MODE is ignored (mask 0x0F, R65). -/
def hasOpcode (op : BitVec 4) (d : Word) : Bool := opcodeOf d == op

/-- The check on a command that MODE selects (mask 0x1F, R64). -/
def hasOpcodeAndMode (op : BitVec 4) (mode : Bool) (d : Word) : Bool := opcodeOf d == op && modeOf d == mode

/-- The instruction is one its encoding can carry. -/
def wellFormed : Instr → Bool
  | .rdId addr => addresses .id addr
  | .wrId addr _ => addresses .id addr
  | .rdCtrl addr => addresses .ctrl addr
  | .wrCtrl addr _ => addresses .ctrl addr
  | .rdCmd addr => addresses .cmd addr
  | .wrCmd addr _ => addresses .cmd addr
  | .rdInLen addr => addresses .inLen addr
  | .wrInLen addr _ => addresses .inLen addr
  | .rdStatus addr => addresses .status addr
  | .wrStatus addr _ => addresses .status addr
  | .rdErrCode addr => addresses .errCode addr
  | .wrErrCode addr _ => addresses .errCode addr
  | .rdErrPos addr => addresses .errPos addr
  | .wrErrPos addr _ => addresses .errPos addr
  | .rdInCount addr => addresses .inCount addr
  | .wrInCount addr _ => addresses .inCount addr
  | .rdOutCount addr => addresses .outCount addr
  | .wrOutCount addr _ => addresses .outCount addr
  | .rdInData addr => addresses .inData addr
  | .wrInData addr _ => addresses .inData addr
  | .rdOutData addr => addresses .outData addr
  | .wrOutData addr _ => addresses .outData addr
  | .rdParam addr => addresses .param addr
  | .wrParam addr _ => addresses .param addr
  | .rdReserved addr => addresses .reserved addr
  | .wrReserved addr _ => addresses .reserved addr
  | .nop d => hasOpcode 0 d
  | .b64enc d => hasOpcode 1 d
  | .b64dec d => hasOpcodeAndMode 2 false d
  | .b64decReject d => hasOpcodeAndMode 2 true d
  | .u8decLenient d => hasOpcodeAndMode 3 false d
  | .u8decStrict d => hasOpcodeAndMode 3 true d
  | .u8enc d => hasOpcode 4 d
  | .illegal5 d => hasOpcode 5 d
  | .illegal6 d => hasOpcode 6 d
  | .illegal7 d => hasOpcode 7 d
  | .illegal8 d => hasOpcode 8 d
  | .illegal9 d => hasOpcode 9 d
  | .illegalA d => hasOpcode 10 d
  | .illegalB d => hasOpcode 11 d
  | .illegalC d => hasOpcode 12 d
  | .illegalD d => hasOpcode 13 d
  | .illegalE d => hasOpcode 14 d
  | .abort d => hasOpcode 15 d

end Sys2Proof
end

