-- ==== Sys2Proof/Certificates/Slice0/Obligations.lean ====
section
/-! DEFINITION. The statements for the provers. Each conclusion that an instruction or an engine step answers a next state
gives the whole state, so it says the result and the frame at once: a field not named keeps its value. -/

open Sys2Proof Sys2Proof.Machine

/-- For every well-formed instruction, with every offset and every data word its encoding admits, the decoder reads the
encoder's word as that instruction. -/
def Obligations.DecodeOfEncode : Prop :=
  ∀ i : Instr, wellFormed i = true → decode (encode i) = i

/-- Every host word decodes to a well-formed instruction, and encoding that gives the word back, but that a read word
comes back with zero data bits, since a read carries no data in. -/
def Obligations.EncodeOfDecode : Prop :=
  ∀ w : HostWord, wellFormed (decode w) = true ∧
    (encode (decode w) = w ∨ ∃ t d, w = .bus t d ∧ t.getLsbD 6 = false ∧ encode (decode w) = .bus t 0)

/-- Of the rows of opcode_table.json, a host word fits one, and only the one that bears the name of the instruction the
decoder reads: no row overlaps another and none is missed. -/
def Obligations.DecodeFollowsOpcodeTable : Prop :=
  ∀ w : HostWord, (∃ r ∈ opcodeTable, r.fits w = true) ∧
    ∀ r ∈ opcodeTable, r.fits w = true ↔ r.mnemonic = mnemonic (decode w)

/-- Transaction and command words of the programs P1 to P5 and of the pseudo-instruction table, one or more of each
family, decode to their instructions. -/
def Obligations.WrittenWordsDecode : Prop :=
  decode (.bus 0b1001100 2) = .wrInLen 0x0C 2 ∧ decode (.bus 0b1100100 0x4D) = .wrInData 0x24 0x4D ∧
  decode (.bus 0b0101000 0) = .rdOutData 0x28 ∧ decode (.bus 0b0010000 0) = .rdStatus 0x10 ∧
  decode (.bus 0b1001000 0x13) = .wrCmd 0x08 0x13 ∧ decode (.cmd 0x12) = .b64decReject 0x12 ∧
  decode (.cmd 0x04) = .u8enc 0x04 ∧ decode (.cmd 0x07) = .illegal7 0x07 ∧ decode (.cmd 0x0F) = .abort 0x0F

/-- Two transaction words with the same WE and ADDR[5:2] and the same data have the same effect in every state, so there
is no misalignment case. -/
def Obligations.LowAddressBitsAreIgnored : Prop :=
  ∀ (t u : BitVec 7) (d : Word) (s : State), t.extractLsb' 2 5 = u.extractLsb' 2 5 →
    exec (decode (.bus t d)) s = exec (decode (.bus u d)) s

/-- RD ID returns 0x484C4331, RD PARAM returns {OUT_DEPTH, IN_DEPTH}, and RD IN_DATA and the reserved offsets return 0,
in every state; each changes nothing else, and each has the encoding its rule gives. (R84, R106, R102, R108) -/
def Obligations.ReadConstants : Prop :=
  (readRow 0x00 0x7C .rdId ∧ readRow 0x2C 0x7C .rdParam ∧ readRow 0x24 0x7C .rdInData ∧
    readRow 0x30 0x70 .rdReserved) ∧
  ∀ (a : BitVec 6) (s : State),
    exec (.rdId a) s = .next { s with rdData := 0x484C4331 } ∧
    exec (.rdParam a) s = .next { s with rdData := BitVec.ofNat 16 Config.outDepth ++ BitVec.ofNat 16 Config.inDepth } ∧
    exec (.rdInData a) s = .next { s with rdData := 0 } ∧
    exec (.rdReserved a) s = .next { s with rdData := 0 }

/-- RD CTRL returns IRQ_EN in bit 0 and zeros above it, RD CMD returns {27 zeros, MODE, OPCODE}, RD IN_LEN returns
IN_LEN; each changes nothing else and has the encoding its rule gives. (R86) -/
def Obligations.ReadControlRegisters : Prop :=
  (readRow 0x04 0x7C .rdCtrl ∧ readRow 0x08 0x7C .rdCmd ∧ readRow 0x0C 0x7C .rdInLen) ∧
  ∀ (a : BitVec 6) (s : State),
    exec (.rdCtrl a) s = .next { s with rdData := if s.irqEn then 1 else 0 } ∧
    exec (.rdCmd a) s =
      .next { s with rdData := BitVec.ofNat 32 ((if s.cmdMode then 16 else 0) + s.cmdOpcode.toNat) } ∧
    exec (.rdInLen a) s = .next { s with rdData := s.inLen }

/-- RD STATUS answers a word whose bits 0 to 8 are BUSY, DONE, ERR, IN_READY, OUT_VALID, PERR, TAIL1, OVF, LSTOP as the
rule computes them and whose other bits are 0, and changes nothing else. (R92) -/
def Obligations.ReadStatusSnapshot : Prop :=
  readRow 0x10 0x7C .rdStatus ∧
  ∀ (a : BitVec 6) (s : State), ∃ v : Word, exec (.rdStatus a) s = .next { s with rdData := v } ∧
    (v.getLsbD 0 = true ↔ s.phase ≠ .idle) ∧ v.getLsbD 1 = s.done ∧ (v.getLsbD 2 = true ↔ s.errCode ≠ .none) ∧
    (v.getLsbD 3 = true ↔ s.phase ≠ .idle ∧ s.pushed < s.lenL ∧ s.inq.length < Config.inDepth) ∧
    (v.getLsbD 4 = true ↔ 0 < s.outq.length) ∧ v.getLsbD 5 = s.perr ∧ v.getLsbD 6 = s.tail1 ∧
    v.getLsbD 7 = s.ovf ∧ v.getLsbD 8 = s.lstop ∧ ∀ n, 9 ≤ n → v.getLsbD n = false

/-- RD ERR_CODE returns the code of R183 zero-extended, RD ERR_POS, RD IN_COUNT and RD OUT_COUNT return their registers;
each changes nothing else and has the encoding its rule gives. (R94, R96) -/
def Obligations.ReadResultRegisters : Prop :=
  (readRow 0x14 0x7C .rdErrCode ∧ readRow 0x18 0x7C .rdErrPos ∧ readRow 0x1C 0x7C .rdInCount ∧
    readRow 0x20 0x7C .rdOutCount) ∧
  ∀ (a : BitVec 6) (s : State),
    exec (.rdErrCode a) s = .next { s with rdData :=
      match s.errCode with | .none => 0 | .illegalCmd => 1 | .u8Trunc => 2 | .u8Lead => 3 | .b64Char => 4 } ∧
    exec (.rdErrPos a) s = .next { s with rdData := s.errPos } ∧
    exec (.rdInCount a) s = .next { s with rdData := s.inCount } ∧
    exec (.rdOutCount a) s = .next { s with rdData := s.outCount }

/-- With OUTQ not empty RD OUT_DATA returns its oldest element and removes it; with OUTQ empty it returns 0 and sets
PERR; in both cases, in every phase, nothing else changes. (R104) -/
def Obligations.ReadOutDataPops : Prop :=
  readRow 0x28 0x7C .rdOutData ∧
  (∀ (a : BitVec 6) (s : State) (v : Word) (rest : List Word), s.outq = v :: rest →
    exec (.rdOutData a) s = .next { s with outq := rest, rdData := v }) ∧
  (∀ (a : BitVec 6) (s : State), s.outq = [] →
    exec (.rdOutData a) s = .next { s with perr := true, rdData := 0 })

/-- In every phase WR CTRL sets IRQ_EN to bit 0 of the data and changes nothing else; after it IRQ is that bit and DONE.
(R87) -/
def Obligations.WriteControl : Prop :=
  writeRow 0x44 0x7C .wrCtrl ∧
  ∀ (a : BitVec 6) (d : Word) (s : State),
    exec (.wrCtrl a d) s = .next { s with irqEn := d.getLsbD 0 } ∧
    ∀ t, exec (.wrCtrl a d) s = .next t → t.irq = (d.getLsbD 0 && s.done)

/-- While idle, DONE or not, WR IN_LEN sets IN_LEN to any value; while an operation runs it sets PERR and leaves IN_LEN;
nothing else changes. (R91) -/
def Obligations.WriteInLen : Prop :=
  writeRow 0x4C 0x7C .wrInLen ∧
  (∀ (a : BitVec 6) (d : Word) (s : State), s.phase = .idle →
    exec (.wrInLen a d) s = .next { s with inLen := d }) ∧
  (∀ (a : BitVec 6) (d : Word) (s : State), s.phase ≠ .idle →
    exec (.wrInLen a d) s = .next { s with perr := true })

/-- WR STATUS clears DONE when bit 1 of the data is 1 and PERR when bit 5 is 1, leaves them otherwise, and changes
nothing else. (R93) -/
def Obligations.WriteStatusAcknowledges : Prop :=
  writeRow 0x50 0x7C .wrStatus ∧
  ∀ (a : BitVec 6) (d : Word) (s : State), exec (.wrStatus a d) s =
    .next { s with done := if d.getLsbD 1 then false else s.done, perr := if d.getLsbD 5 then false else s.perr }

/-- When an operation runs or drains, PUSHED < LEN_L and INQ is not full, WR IN_DATA appends all 32 bits to INQ and adds
1 to PUSHED; else it only sets PERR. (R103) -/
def Obligations.WriteInDataPushes : Prop :=
  writeRow 0x64 0x7C .wrInData ∧
  (∀ (a : BitVec 6) (d : Word) (s : State),
    s.phase ≠ .idle → s.pushed < s.lenL → s.inq.length < Config.inDepth →
    exec (.wrInData a d) s = .next { s with inq := s.inq ++ [d], pushed := s.pushed + 1 }) ∧
  (∀ (a : BitVec 6) (d : Word) (s : State),
    ¬ (s.phase ≠ .idle ∧ s.pushed < s.lenL ∧ s.inq.length < Config.inDepth) →
    exec (.wrInData a d) s = .next { s with perr := true })

/-- WR ID, ERR_CODE, ERR_POS, IN_COUNT, OUT_COUNT, OUT_DATA, PARAM and of a reserved offset answer the same state, in
every state and with every data word, and have the encodings their rules give. (R85, R95, R97, R99, R101, R105,
R107, R109) -/
def Obligations.ReadOnlyWritesIgnored : Prop :=
  (writeRow 0x40 0x7C .wrId ∧ writeRow 0x54 0x7C .wrErrCode ∧ writeRow 0x58 0x7C .wrErrPos ∧
    writeRow 0x5C 0x7C .wrInCount ∧ writeRow 0x60 0x7C .wrOutCount ∧ writeRow 0x68 0x7C .wrOutData ∧
    writeRow 0x6C 0x7C .wrParam ∧ writeRow 0x70 0x70 .wrReserved) ∧
  ∀ (a : BitVec 6) (d : Word) (s : State),
    exec (.wrId a d) s = .next s ∧ exec (.wrErrCode a d) s = .next s ∧ exec (.wrErrPos a d) s = .next s ∧
    exec (.wrInCount a d) s = .next s ∧ exec (.wrOutCount a d) s = .next s ∧ exec (.wrOutData a d) s = .next s ∧
    exec (.wrParam a d) s = .next s ∧ exec (.wrReserved a d) s = .next s

/-- WR CMD has the effect of the command row its data decodes to, and answers a next state: the same state for NOP,
ABORT in every phase, PERR for any other opcode while busy, Start for opcodes 1 to 4 and IllegalCommand for 5 to E
while idle. (R89) -/
def Obligations.WrCmdIssuesTheCommand : Prop :=
  writeRow 0x48 0x7C .wrCmd ∧
  ∀ (a : BitVec 6) (d : Word) (s : State),
    exec (.wrCmd a d) s = exec (decode (.cmd d)) s ∧
    (opcodeOf d = 0x0 → exec (.wrCmd a d) s = .next s) ∧
    (opcodeOf d = 0xF → exec (.wrCmd a d) s = .next (abortOperation (modeOf d) s)) ∧
    (opcodeOf d ≠ 0x0 → opcodeOf d ≠ 0xF → s.phase ≠ .idle →
      exec (.wrCmd a d) s = .next { s with perr := true }) ∧
    (1 ≤ (opcodeOf d).toNat → (opcodeOf d).toNat ≤ 4 → s.phase = .idle →
      exec (.wrCmd a d) s = .next (start (opcodeOf d) (modeOf d) s)) ∧
    (5 ≤ (opcodeOf d).toNat → (opcodeOf d).toNat ≤ 14 → s.phase = .idle →
      exec (.wrCmd a d) s = .next (illegalCommand (opcodeOf d) (modeOf d) s))

/-- B64ENC, B64DEC, B64DEC.REJECT, U8DEC.LENIENT, U8DEC.STRICT and U8ENC, issued while idle, write CMD and the latches,
take LEN_L from IN_LEN, clear the counters, FIFOs, datapath, DONE, the error record and the warnings, set PHASE to
RUN, and leave every other field (PERR, CTRL, IN_LEN). (R110) -/
def Obligations.CodecCommandsStart : Prop :=
  let started : BitVec 4 → Bool → State → State := fun op m s => { s with
    cmdOpcode := op, cmdMode := m, opL := op, modeL := m, lenL := s.inLen,
    pushed := 0, inCount := 0, outCount := 0, inq := [], outq := [], acc := 0, k := 0, need := 0, leadPos := 0,
    errPos := 0, tail1 := false, ovf := false, lstop := false,
    done := false, errCode := .none, phase := .run }
  (commandRow 0x01 0x0F .b64enc ∧ commandRow 0x02 0x1F .b64dec ∧ commandRow 0x12 0x1F .b64decReject ∧
    commandRow 0x03 0x1F .u8decLenient ∧ commandRow 0x13 0x1F .u8decStrict ∧ commandRow 0x04 0x0F .u8enc) ∧
  ∀ (d : Word) (s : State), s.phase = .idle →
    exec (.b64enc d) s = .next (started 0x1 (d.getLsbD 4) s) ∧
    exec (.b64dec d) s = .next (started 0x2 false s) ∧
    exec (.b64decReject d) s = .next (started 0x2 true s) ∧
    exec (.u8decLenient d) s = .next (started 0x3 false s) ∧
    exec (.u8decStrict d) s = .next (started 0x3 true s) ∧
    exec (.u8enc d) s = .next (started 0x4 (d.getLsbD 4) s)

/-- NOP, whatever its MODE and reserved bits, answers the same state in every state: CMD keeps its value and PERR is not
set. (R111) -/
def Obligations.NopHasNoEffect : Prop :=
  commandRow 0x00 0x0F .nop ∧ ∀ (d : Word) (s : State), exec (.nop d) s = .next s

/-- ABORT writes CMD, sets PHASE to IDLE, empties both FIFOs, clears the latches, counters, datapath, DONE, the error
record and the warnings, and leaves PERR, CTRL and IN_LEN; it raises no interrupt. (R118) -/
def Obligations.AbortFromEveryPhase : Prop :=
  commandRow 0x0F 0x0F .abort ∧
  ∀ (d : Word) (s : State), exec (.abort d) s = .next { s with
    cmdOpcode := 0xF, cmdMode := d.getLsbD 4, phase := .idle, opL := 0, modeL := false, lenL := 0,
    pushed := 0, inCount := 0, outCount := 0, inq := [], outq := [], acc := 0, k := 0, need := 0, leadPos := 0,
    errPos := 0, tail1 := false, ovf := false, lstop := false,
    done := false, errCode := .none }

/-- Each of the ten illegal opcodes, issued while idle, writes CMD and the latches with LEN_L 0, clears the counters,
FIFOs, datapath and warnings, sets ERR_CODE to ILLEGAL_CMD, ERR_POS to 0 and DONE to 1, stays idle, and leaves every
other field; an IN_DATA write afterwards is a protocol error. The writes of the latches are R119's, where the prose
of R39 names no illegal command (log entry 11). (R119) -/
def Obligations.IllegalCommandWhileIdle : Prop :=
  let illegal : BitVec 4 → Word → State → State := fun op d s => { s with
    cmdOpcode := op, cmdMode := d.getLsbD 4, opL := op, modeL := d.getLsbD 4, lenL := 0,
    pushed := 0, inCount := 0, outCount := 0, inq := [], outq := [], acc := 0, k := 0, need := 0, leadPos := 0,
    errPos := 0, tail1 := false, ovf := false, lstop := false,
    done := true, errCode := .illegalCmd }
  (commandRow 0x05 0x0F .illegal5 ∧ commandRow 0x06 0x0F .illegal6 ∧ commandRow 0x07 0x0F .illegal7 ∧
    commandRow 0x08 0x0F .illegal8 ∧ commandRow 0x09 0x0F .illegal9 ∧ commandRow 0x0A 0x0F .illegalA ∧
    commandRow 0x0B 0x0F .illegalB ∧ commandRow 0x0C 0x0F .illegalC ∧ commandRow 0x0D 0x0F .illegalD ∧
    commandRow 0x0E 0x0F .illegalE) ∧
  ∀ (d : Word) (s : State), s.phase = .idle →
    (exec (.illegal5 d) s = .next (illegal 0x5 d s) ∧ exec (.illegal6 d) s = .next (illegal 0x6 d s) ∧
      exec (.illegal7 d) s = .next (illegal 0x7 d s) ∧ exec (.illegal8 d) s = .next (illegal 0x8 d s) ∧
      exec (.illegal9 d) s = .next (illegal 0x9 d s) ∧ exec (.illegalA d) s = .next (illegal 0xA d s) ∧
      exec (.illegalB d) s = .next (illegal 0xB d s) ∧ exec (.illegalC d) s = .next (illegal 0xC d s) ∧
      exec (.illegalD d) s = .next (illegal 0xD d s) ∧ exec (.illegalE d) s = .next (illegal 0xE d s)) ∧
    ∀ (op : BitVec 4) (a : BitVec 6) (e : Word), exec (.wrInData a e) (illegal op d s) =
      .next { illegal op d s with perr := true }

/-- While an operation runs or drains, each of the six codec commands and the ten illegal opcodes, and the WR CMD that
carries one, sets PERR and changes nothing else. (R120) -/
def Obligations.BusyCommandIsIgnored : Prop :=
  ∀ (d : Word) (s : State), s.phase ≠ .idle →
    (∀ i ∈ [Instr.b64enc d, .b64dec d, .b64decReject d, .u8decLenient d, .u8decStrict d, .u8enc d, .illegal5 d,
        .illegal6 d, .illegal7 d, .illegal8 d, .illegal9 d, .illegalA d, .illegalB d, .illegalC d, .illegalD d,
        .illegalE d], exec i s = .next { s with perr := true }) ∧
    ∀ a, opcodeOf d ≠ 0x0 → opcodeOf d ≠ 0xF → exec (.wrCmd a d) s = .next { s with perr := true }

/-- An engine turn leaves the state as it is while PHASE is IDLE (R133), while INQ is empty before the last element
(R215 a), and while OUTQ lacks room for the emission of the step (R122, R123, R215 b). The spec says only that no
engine step is enabled then; that a turn taken there passes and leaves the state as it is, is the model's choice
(log entry 4, DESIGN CHOICE). -/
def Obligations.IdleAndWaitingEngine : Prop :=
  ∀ s : State,
    (s.phase = .idle → engineTurn s = .next s) ∧
    (s.inCount < s.lenL → s.inq = [] → engineTurn s = .next s) ∧
    (∀ e rest n, s.inCount < s.lenL → s.inq = e :: rest → consumeCount e s = some n →
      Config.outDepth - s.outq.length < n → engineTurn s = .next s) ∧
    (∀ n, s.inCount = s.lenL → finalCount s = some n → Config.outDepth - s.outq.length < n →
      engineTurn s = .next s)

/-- In DRAIN a consume step pops one element and adds 1 to IN_COUNT and changes nothing else, whatever the element; the
final step only completes: PHASE IDLE and DONE 1. (R126) -/
def Obligations.DrainDiscardsAndCompletes : Prop :=
  ∀ s : State, s.phase = .drain →
    (∀ e rest, s.inCount < s.lenL → s.inq = e :: rest →
      engineTurn s = .next { s with inq := rest, inCount := s.inCount + 1 }) ∧
    (s.inCount = s.lenL → engineTurn s = .next { s with phase := .idle, done := true })

/-- In RUN with OP_L = 1: with K 0 or 1 the byte e[7:0] is shifted into ACC and K grows by 1, nothing is emitted (R137);
with K = 2 and room for four, the four characters of G = {ACC[15:0], e[7:0]} are emitted and ACC and K are cleared
(R138). IN_COUNT grows by 1, and nothing else changes. Without that room the step is not enabled (R122); that a turn
taken then passes and leaves the state as it is, is the model's choice (log entry 4, DESIGN CHOICE). -/
def Obligations.Base64EncodeConsume : Prop :=
  ∀ (s : State) (e : Word) (rest : List Word), consumeReady 1 e rest s →
    (s.k = 0 ∨ s.k = 1 → engineTurn s = .next { s with
      inq := rest, inCount := s.inCount + 1, acc := (s.acc <<< 8) ||| (e.setWidth 8).setWidth 24, k := s.k + 1 }) ∧
    (s.k = 2 → room 4 s → ∀ g : BitVec 24, g = s.acc.extractLsb' 0 16 ++ e.extractLsb' 0 8 →
      engineTurn s = .next { s with
        inq := rest, inCount := s.inCount + 1, acc := 0, k := 0, outCount := s.outCount + 4,
        outq := s.outq ++ [element (alph (g.extractLsb' 18 6)), element (alph (g.extractLsb' 12 6)),
          element (alph (g.extractLsb' 6 6)), element (alph (g.extractLsb' 0 6))] }) ∧
    (s.k = 2 → ¬ room 4 s → engineTurn s = .next s)

/-- In RUN with OP_L = 1 and all elements consumed: K = 0 completes without output; K = 1 emits two characters and two
pads; K = 2 emits three characters and one pad; ACC and K are cleared, PHASE is IDLE and DONE is 1, nothing else
changes. (R139, R140, R141) -/
def Obligations.Base64EncodeFinal : Prop :=
  ∀ s : State, finalReady 1 s →
    (s.k = 0 → engineTurn s = .next { s with phase := .idle, done := true }) ∧
    (s.k = 1 → room 4 s → ∀ b0 : Byte, b0 = s.acc.extractLsb' 0 8 →
      engineTurn s = .next { s with
        phase := .idle, done := true, acc := 0, k := 0, outCount := s.outCount + 4,
        outq := s.outq ++ [element (alph (b0.extractLsb' 2 6)), element (alph (b0.extractLsb' 0 2 ++ 0b0000#4)),
          0x3D, 0x3D] }) ∧
    (s.k = 2 → room 4 s → ∀ b0 b1 : Byte, b0 = s.acc.extractLsb' 8 8 → b1 = s.acc.extractLsb' 0 8 →
      engineTurn s = .next { s with
        phase := .idle, done := true, acc := 0, k := 0, outCount := s.outCount + 4,
        outq := s.outq ++ [element (alph (b0.extractLsb' 2 6)),
          element (alph (b0.extractLsb' 0 2 ++ b1.extractLsb' 4 4)),
          element (alph (b1.extractLsb' 0 4 ++ 0b00#2)), 0x3D] })

/-- In RUN with OP_L = 2 a character of index v, or an unrecognized one in substitute mode as v = 0 (R149), is shifted
into ACC while K < 3 (R147); with K = 3 and room for three, the bytes of G = {ACC[17:0], v} are emitted and ACC and
K are cleared (R148). IN_COUNT grows by 1, and nothing else changes. Without that room the step is not enabled
(R122); that a turn taken then passes and leaves the state as it is, is the model's choice (log entry 4, DESIGN
CHOICE). -/
def Obligations.Base64DecodeSextets : Prop :=
  ∀ (s : State) (e : Word) (rest : List Word) (v : Sextet), consumeReady 2 e rest s →
    (inv (e.setWidth 8) = .index v ∨ inv (e.setWidth 8) = .unrecognized ∧ s.modeL = false ∧ v = 0) →
    (s.k ≠ 3 → engineTurn s = .next { s with
      inq := rest, inCount := s.inCount + 1, acc := (s.acc <<< 6) ||| v.setWidth 24, k := s.k + 1 }) ∧
    (s.k = 3 → room 3 s → ∀ g : BitVec 24, g = s.acc.extractLsb' 0 18 ++ v →
      engineTurn s = .next { s with
        inq := rest, inCount := s.inCount + 1, acc := 0, k := 0, outCount := s.outCount + 3,
        outq := s.outq ++ [(g.extractLsb' 16 8).setWidth 32, (g.extractLsb' 8 8).setWidth 32,
          (g.extractLsb' 0 8).setWidth 32] }) ∧
    (s.k = 3 → ¬ room 3 s → engineTurn s = .next s)

/-- In RUN with OP_L = 2, at a PAD (in either mode, whatever its position) and at the final step, the open group is
closed: nothing for K = 0, TAIL1 and no byte for K = 1, ACC[11:4] for K = 2, ACC[17:10] and ACC[9:2] for K = 3; ACC
and K are cleared. The PAD then enters DRAIN; the final step completes. Nothing else changes. (R146, R151, R152) -/
def Obligations.Base64DecodeEndOfData : Prop :=
  let flushed : State → State := fun s => { s with
    acc := 0, k := 0, tail1 := if s.k = 1 then true else s.tail1,
    outq := s.outq ++ (if s.k = 2 then [(s.acc.extractLsb' 4 8).setWidth 32] else if s.k = 3 then
      [(s.acc.extractLsb' 10 8).setWidth 32, (s.acc.extractLsb' 2 8).setWidth 32] else []),
    outCount := s.outCount + (if s.k = 2 then 1 else if s.k = 3 then 2 else 0) }
  ∀ s : State, (s.k = 2 → room 1 s) → (s.k = 3 → room 2 s) →
    (∀ e rest, consumeReady 2 e rest s → e.setWidth 8 = 0x3D#8 → engineTurn s =
      .next { flushed s with inq := rest, inCount := s.inCount + 1, phase := .drain }) ∧
    (finalReady 2 s → engineTurn s = .next { flushed s with phase := .idle, done := true })

/-- In RUN with OP_L = 2 and MODE_L = 1 an unrecognized character discards the open group, records B64_CHAR with the
index of the character if no error is recorded yet, and enters DRAIN; nothing is emitted and nothing else changes.
(R150) -/
def Obligations.Base64RejectRecordsTheError : Prop :=
  ∀ (s : State) (e : Word) (rest : List Word), consumeReady 2 e rest s → s.modeL = true →
    inv (e.setWidth 8) = .unrecognized → engineTurn s = .next { s with
      inq := rest, inCount := s.inCount + 1, acc := 0, k := 0, phase := .drain,
      errCode := if s.errCode = .none then .b64Char else s.errCode,
      errPos := if s.errCode = .none then s.inCount else s.errPos }

/-- In RUN with OP_L = 3 and NEED = 0: a byte up to 0x7F is emitted (with room for one); leads 0xC0 to 0xDF, 0xE0 to
0xEF, 0xF0 to 0xF7 put their low 5, 4, 3 bits into ACC, set NEED to 1, 2, 3 and LEAD_POS to the index of the byte.
IN_COUNT grows by 1, and nothing else changes. (R160, R161) -/
def Obligations.Utf8DecodeLeads : Prop :=
  ∀ (s : State) (e : Word) (rest : List Word) (c : Byte), consumeReady 3 e rest s → s.need = 0 → c = e.setWidth 8 →
    (c ≤ 0x7F → room 1 s → engineTurn s = .next { s with
      inq := rest, inCount := s.inCount + 1, outq := s.outq ++ [c.setWidth 32], outCount := s.outCount + 1 }) ∧
    (0xC0 ≤ c → c ≤ 0xDF → engineTurn s = .next { s with
      inq := rest, inCount := s.inCount + 1, acc := (c.extractLsb' 0 5).setWidth 24, need := 1,
      leadPos := s.inCount }) ∧
    (0xE0 ≤ c → c ≤ 0xEF → engineTurn s = .next { s with
      inq := rest, inCount := s.inCount + 1, acc := (c.extractLsb' 0 4).setWidth 24, need := 2,
      leadPos := s.inCount }) ∧
    (0xF0 ≤ c → c ≤ 0xF7 → engineTurn s = .next { s with
      inq := rest, inCount := s.inCount + 1, acc := (c.extractLsb' 0 3).setWidth 24, need := 3,
      leadPos := s.inCount })

/-- In RUN with OP_L = 3: with NEED 2 or 3 the low six bits of the byte, whatever its top bits, are shifted into ACC and
NEED falls by 1; with NEED = 1 and room for one the code point {8 zeros, (ACC << 6 | c[5:0])} is emitted and ACC and
NEED are cleared. IN_COUNT grows by 1, and nothing else changes. (R162, R163) -/
def Obligations.Utf8DecodeContinuation : Prop :=
  ∀ (s : State) (e : Word) (rest : List Word) (a : BitVec 24), consumeReady 3 e rest s →
    a = (s.acc <<< 6) ||| (e.extractLsb' 0 6).setWidth 24 →
    (s.need = 2 ∨ s.need = 3 → engineTurn s = .next { s with
      inq := rest, inCount := s.inCount + 1, acc := a, need := s.need - 1 }) ∧
    (s.need = 1 → room 1 s → engineTurn s = .next { s with
      inq := rest, inCount := s.inCount + 1, acc := 0, need := 0,
      outq := s.outq ++ [a.setWidth 32], outCount := s.outCount + 1 })

/-- In RUN with OP_L = 3 and NEED = 0 a byte 0x80 to 0xBF or 0xF8 to 0xFF enters DRAIN: in strict mode U8_LEAD and the
index of the byte are recorded if no error is recorded yet, in lenient mode LSTOP is set. IN_COUNT grows by 1,
nothing is emitted, and nothing else changes. (R165, R166) -/
def Obligations.Utf8InvalidLead : Prop :=
  ∀ (s : State) (e : Word) (rest : List Word) (c : Byte), consumeReady 3 e rest s → s.need = 0 → c = e.setWidth 8 →
    (0x80 ≤ c ∧ c ≤ 0xBF) ∨ 0xF8 ≤ c →
    (s.modeL = true → engineTurn s = .next { s with
      inq := rest, inCount := s.inCount + 1, phase := .drain,
      errCode := if s.errCode = .none then .u8Lead else s.errCode,
      errPos := if s.errCode = .none then s.inCount else s.errPos }) ∧
    (s.modeL = false → engineTurn s = .next { s with
      inq := rest, inCount := s.inCount + 1, phase := .drain, lstop := true })

/-- In RUN with OP_L = 3 and all elements consumed: NEED = 0 completes; NEED > 0 clears ACC and NEED, records U8_TRUNC
with LEAD_POS in strict mode if no error is recorded yet, or sets LSTOP in lenient mode, and completes. Nothing is
emitted and nothing else changes. (R167, R168, R169) -/
def Obligations.Utf8DecodeFinal : Prop :=
  ∀ s : State, finalReady 3 s →
    (s.need = 0 → engineTurn s = .next { s with phase := .idle, done := true }) ∧
    (s.need ≠ 0 → s.modeL = true → engineTurn s = .next { s with
      phase := .idle, done := true, acc := 0, need := 0,
      errCode := if s.errCode = .none then .u8Trunc else s.errCode,
      errPos := if s.errCode = .none then s.leadPos else s.errPos }) ∧
    (s.need ≠ 0 → s.modeL = false → engineTurn s = .next { s with
      phase := .idle, done := true, acc := 0, need := 0, lstop := true })

/-- In RUN with OP_L = 4 a code point is emitted as 1, 2, 3 or 4 bytes by its range, with room for them, the 4-byte form
using cp[20:0] only; OVF is set exactly for a value above 0x1FFFFF. IN_COUNT grows by 1 and nothing else changes.
The final step only completes. (R175, R176, R177, R178) -/
def Obligations.Utf8EncodeSteps : Prop :=
  ∀ s : State,
    (∀ (e : Word) (rest : List Word), consumeReady 4 e rest s →
      (e ≤ 0x7F → room 1 s → engineTurn s = .next { s with
        inq := rest, inCount := s.inCount + 1, outCount := s.outCount + 1,
        outq := s.outq ++ [(e.extractLsb' 0 7).setWidth 32] }) ∧
      (0x80 ≤ e → e ≤ 0x7FF → room 2 s → engineTurn s = .next { s with
        inq := rest, inCount := s.inCount + 1, outCount := s.outCount + 2,
        outq := s.outq ++ [0xC0 ||| (e.extractLsb' 6 5).setWidth 32, 0x80 ||| (e.extractLsb' 0 6).setWidth 32] }) ∧
      (0x800 ≤ e → e ≤ 0xFFFF → room 3 s → engineTurn s = .next { s with
        inq := rest, inCount := s.inCount + 1, outCount := s.outCount + 3,
        outq := s.outq ++ [0xE0 ||| (e.extractLsb' 12 4).setWidth 32, 0x80 ||| (e.extractLsb' 6 6).setWidth 32,
          0x80 ||| (e.extractLsb' 0 6).setWidth 32] }) ∧
      (0x10000 ≤ e → room 4 s → engineTurn s = .next { s with
        inq := rest, inCount := s.inCount + 1, outCount := s.outCount + 4,
        ovf := if 0x1FFFFF < e then true else s.ovf,
        outq := s.outq ++ [0xF0 ||| (e.extractLsb' 18 3).setWidth 32, 0x80 ||| (e.extractLsb' 12 6).setWidth 32,
          0x80 ||| (e.extractLsb' 6 6).setWidth 32, 0x80 ||| (e.extractLsb' 0 6).setWidth 32] })) ∧
    (finalReady 4 s → engineTurn s = .next { s with phase := .idle, done := true })

/-- An engine turn that changes the state appends to OUTQ exactly as many elements as R124 gives for it, never more than
four, and adds that many to OUT_COUNT modulo 2^32; an OUTQ within its capacity stays within it. -/
def Obligations.EmissionIsAllOrNothing : Prop :=
  ∀ s t : State, engineTurn s = .next t → ∃ vs : List Word,
    t.outq = s.outq ++ vs ∧ t.outCount = s.outCount + BitVec.ofNat 32 vs.length ∧ vs.length ≤ 4 ∧
    (s.outq.length ≤ Config.outDepth → t.outq.length ≤ Config.outDepth) ∧
    (t ≠ s → (s.inCount < s.lenL ∧ ∃ e, s.inq.head? = some e ∧ consumeCount e s = some vs.length) ∨
      (s.inCount = s.lenL ∧ finalCount s = some vs.length))

/-- An engine turn of a running operation leaves the state, or consumes exactly one element and stays busy, or completes
with all elements consumed (R131). With the invariant, an element waiting or all consumed, and room for four, the
turn is not empty: the block never stalls for an internal reason (R215). -/
def Obligations.EngineMakesProgress : Prop :=
  ∀ s t : State, s.phase ≠ .idle → engineTurn s = .next t →
    (t = s ∨ (t.inCount = s.inCount + 1 ∧ s.inq ≠ [] ∧ t.inq = s.inq.tail ∧ t.phase ≠ .idle) ∨
      (t.inCount = s.inCount ∧ s.inCount = s.lenL ∧ t.phase = .idle ∧ t.done = true)) ∧
    (Inv s → s.inq ≠ [] ∨ s.inCount = s.lenL → room 4 s → t ≠ s)

/-- With a host word first in the list of pending steps, the step is the decoded instruction on the state with the rest
pending; a table word placed by withFetchWord runs so. That the order of the agents is a list in the state is the
model's choice (log entry 1). -/
def Obligations.StepRunsTheDecodedInstruction : Prop :=
  (∀ (s : State) (w : HostWord) (rest : List Event), s.pending = .host w :: rest →
    step s = exec (decode w) { s with pending := rest }) ∧
  (∀ (s : State) (nbits n : Nat) (i : Instr), decodeTableWord nbits n = some i →
    step (s.withFetchWord nbits n) = exec i s)

/-- With an engine turn first in the list of pending steps, or with nothing pending, the step is the engine's turn. That
an empty list gives the engine the turn is the model's choice (log entry 1), its form of the fairness of R218. -/
def Obligations.StepGivesTheEngineItsTurn : Prop :=
  (∀ (s : State) (rest : List Event), s.pending = .engine :: rest →
    step s = engineTurn { s with pending := rest }) ∧
  (∀ s : State, s.pending = [] → step s = engineTurn s)

/-- With the platform's reset next, the step answers the reset state with the rest pending, from every state (R201,
R202): PHASE IDLE, every flag, register, latch, counter and datapath register 0, both FIFOs empty. The value of the
model's own field rdData after reset is a model choice (log entry 3). -/
def Obligations.ResetSetsEveryField : Prop :=
  ∀ (s : State) (rest : List Event), s.pending = .reset :: rest → step s = .next {
    irqEn := false, cmdOpcode := 0, cmdMode := false, inLen := 0, done := false, perr := false, tail1 := false,
    ovf := false, lstop := false, errCode := .none, errPos := 0, inCount := 0, outCount := 0, phase := .idle,
    opL := 0, modeL := false, lenL := 0, pushed := 0, inq := [], outq := [], acc := 0, k := 0, need := 0,
    leadPos := 0, rdData := 0, pending := rest }

/-- From the reset state, whatever is pending, RD ID returns 0x484C4331, RD PARAM returns {OUT_DEPTH, IN_DEPTH}, every
other read returns 0, and RD OUT_DATA sets PERR; IRQ is 0, and every stored field has its reset value. (R202) -/
def Obligations.ReadsAfterReset : Prop :=
  ∀ (p : List Event) (a : BitVec 6) (s : State), s = { State.reset with pending := p } →
    exec (.rdId a) s = .next { s with rdData := 0x484C4331 } ∧
    exec (.rdParam a) s = .next { s with rdData := BitVec.ofNat 16 Config.outDepth ++ BitVec.ofNat 16 Config.inDepth } ∧
    (∀ i ∈ [Instr.rdCtrl a, .rdCmd a, .rdInLen a, .rdStatus a, .rdErrCode a, .rdErrPos a, .rdInCount a,
        .rdOutCount a, .rdInData a, .rdReserved a], exec i s = .next { s with rdData := 0 }) ∧
    exec (.rdOutData a) s = .next { s with rdData := 0, perr := true } ∧ s.irq = false ∧
    s.irqEn = false ∧ s.cmdOpcode = 0 ∧ s.cmdMode = false ∧ s.inLen = 0 ∧ s.done = false ∧ s.perr = false ∧
    s.tail1 = false ∧ s.ovf = false ∧ s.lstop = false ∧ s.errCode = .none ∧ s.errPos = 0 ∧ s.inCount = 0 ∧
    s.outCount = 0 ∧ s.phase = .idle ∧ s.opL = 0 ∧ s.modeL = false ∧ s.lenL = 0 ∧ s.pushed = 0 ∧ s.inq = [] ∧
    s.outq = [] ∧ s.acc = 0 ∧ s.k = 0 ∧ s.need = 0 ∧ s.leadPos = 0

/-- The reset state, with any steps pending, meets the invariant of the block. -/
def Obligations.ResetMeetsTheInvariant : Prop :=
  ∀ p : List Event, Inv { State.reset with pending := p }

/-- From every state that meets the invariant, every step of every agent gives a state that meets it: the FIFOs stay
within their capacities with IN_COUNT + INQ.count = PUSHED at most LEN_L (R40), a running operation is a codec whose
CMD and IN_LEN agree with its latches (R122, R90), the error record and the warnings belong to the operation and
exclude each other (R193), ACC holds only the open group or sequence (R136, R144, R158), and OUTQ holds bytes or
code points up to 0x1FFFFF (R69, R172). -/
def Obligations.StepKeepsTheInvariant : Prop :=
  ∀ s t : State, Inv s → step s = .next t → Inv t

/-- Every instruction answers a next state in every state (no transaction faults the bus, R83), and from every state
that meets the invariant every step of every agent answers a next state. -/
def Obligations.StepNeverStops : Prop :=
  (∀ (i : Instr) (s : State), ∃ t, exec i s = .next t) ∧ ∀ s : State, Inv s → ∃ t, step s = .next t

/-- Take a codec command issued while idle and any interleaving of host transactions, engine turns and resets after it.
If it leads to the completion of the operation, exactly IN_LEN elements were accepted, and the elements emitted,
ERR_CODE, ERR_POS, TAIL1, OVF and LSTOP are those of the operation function of R135, R143, R157 or R173 on the
accepted elements (R128, R129): they depend on nothing else, neither on earlier operations nor on the depths of the
FIFOs (R2). -/
def Obligations.OperationOutcome : Prop :=
  ∀ (i : Instr) (c : Codec) (m : Bool) (s s0 t : State) (x y : List Word),
    startsCodec i = some (c, m) → s.phase = .idle → exec i s = .next s0 →
    OpRun s0 x y t → t.phase = .idle → t.done = true →
    x.length = s.inLen.toNat ∧ operation c m x = ⟨y, t.errCode, t.errPos, t.tail1, t.ovf, t.lstop⟩

/-- For every codec command, every input x of at most 2^32 - 1 elements with IN_LEN = |x|, and an idle block whose
pending steps are the protocol over x (push, engine turn, pops; then one engine turn; one of the orders that R206
allows), the run accepts exactly x and completes with DONE when those steps have been taken (R131, R206). -/
def Obligations.ProtocolCompletes : Prop :=
  ∀ (i : Instr) (c : Codec) (m : Bool) (s s0 : State) (x : List Word),
    startsCodec i = some (c, m) → s.phase = .idle → s.inLen.toNat = x.length → s.pending = protocolEvents x →
    exec i s = .next s0 →
    ∃ (y : List Word) (t : State), OpRun s0 x y t ∧ t.phase = .idle ∧ t.done = true ∧ t.pending = []

/-- A step that changes PHASE is IDLE to RUN by a codec command, RUN to DRAIN by the engine, any phase to IDLE by the
engine's completion with DONE, or any phase to IDLE by ABORT or reset. -/
def Obligations.PhaseTransitions : Prop :=
  ∀ s t : State, step s = .next t → t.phase ≠ s.phase →
    (s.phase = .idle ∧ t.phase = .run ∧
      ∃ d, commandNext s d ∧ 1 ≤ (opcodeOf d).toNat ∧ (opcodeOf d).toNat ≤ 4) ∨
    (s.phase = .run ∧ t.phase = .drain ∧ engineMoves s = true) ∨
    (t.phase = .idle ∧ t.done = true ∧ engineMoves s = true) ∨
    (t.phase = .idle ∧ t.done = false ∧ ((∃ d, commandNext s d ∧ opcodeOf d = 0xF) ∨ resetNext s))

/-- After a step PERR is 1 exactly when the step was one of the four events of R189, or PERR was 1 before and the step
was neither a STATUS write with bit 5 set nor a reset (R26, R190). -/
def Obligations.PerrHasFourCauses : Prop :=
  ∀ s t : State, step s = .next t →
    (t.perr = true ↔ protocolErrorNext s ∨
      (s.perr = true ∧ ¬ resetNext s ∧ ¬ ∃ d, busNext s 0x50 d ∧ d.getLsbD 5 = true))

/-- DONE rises only when the engine completes an operation or an illegal opcode is issued while idle; it falls only by a
STATUS write with bit 1 set, a start command, ABORT or reset (R22). -/
def Obligations.DoneHasTwoCauses : Prop :=
  ∀ s t : State, step s = .next t →
    (s.done = false → t.done = true →
      (engineMoves s = true ∧ s.phase ≠ .idle ∧ t.phase = .idle) ∨
      (s.phase = .idle ∧ ∃ d, commandNext s d ∧ 5 ≤ (opcodeOf d).toNat ∧ (opcodeOf d).toNat ≤ 14)) ∧
    (s.done = true → t.done = false →
      (∃ d, busNext s 0x50 d ∧ d.getLsbD 1 = true) ∨ resetNext s ∨
      ∃ d, actingCommandNext s d ∧ ((opcodeOf d).toNat ≤ 4 ∨ opcodeOf d = 0xF))

/-- IRQ_EN changes only by a CTRL write, to D[0], or by reset (R17); IN_LEN only by an IN_LEN write while idle, to D, or
by reset (R19); CMD only by a command that is not ignored and no NOP, to D[4:0], or by reset (R18). -/
def Obligations.ControlRegistersHaveOneWriter : Prop :=
  ∀ s t : State, step s = .next t → resetNext s ∨
    ((t.irqEn = s.irqEn ∨ ∃ d, busNext s 0x44 d ∧ t.irqEn = d.getLsbD 0) ∧
      (t.inLen = s.inLen ∨ ∃ d, busNext s 0x4C d ∧ s.phase = .idle ∧ t.inLen = d) ∧
      ((t.cmdOpcode = s.cmdOpcode ∧ t.cmdMode = s.cmdMode) ∨
        ∃ d, actingCommandNext s d ∧ t.cmdOpcode = opcodeOf d ∧ t.cmdMode = modeOf d))

/-- The latches of the running operation change only by a start or an illegal command while idle, by ABORT or by reset;
so neither the engine nor any other transaction, a later CMD or IN_LEN write included, changes a running operation
(R39, R60). That an illegal command while idle writes them is R119's pseudocode; the prose of R39 does not name it
(log entry 11, DEDUCED). -/
def Obligations.LatchesHoldDuringAnOperation : Prop :=
  ∀ s t : State, step s = .next t → (∀ d, ¬ actingCommandNext s d) → ¬ resetNext s →
    t.opL = s.opL ∧ t.modeL = s.modeL ∧ t.lenL = s.lenL

/-- A host transaction that is no start, illegal command or ABORT the block acts on changes none of ACC, K, NEED,
LEAD_POS, PHASE, ERR_CODE, ERR_POS, TAIL1, OVF, LSTOP, IN_COUNT and OUT_COUNT: the derivation of R129. -/
def Obligations.HostTransactionsLeaveTheDatapath : Prop :=
  ∀ (s t : State) (w : HostWord) (rest : List Event), s.pending = .host w :: rest → step s = .next t →
    (∀ d, ¬ actingCommandNext s d) →
    t.acc = s.acc ∧ t.k = s.k ∧ t.need = s.need ∧ t.leadPos = s.leadPos ∧ t.phase = s.phase ∧
    t.errCode = s.errCode ∧ t.errPos = s.errPos ∧ t.tail1 = s.tail1 ∧ t.ovf = s.ovf ∧ t.lstop = s.lstop ∧
    t.inCount = s.inCount ∧ t.outCount = s.outCount

/-- A step leaves INQ, or appends the data of an accepted IN_DATA write, or as an engine step drops its oldest element,
or empties it by an acting command or reset (R41). A step leaves OUTQ, or drops its oldest element by an OUT_DATA
read, or as an engine step appends elements, or empties it by an acting command or reset (R42). -/
def Obligations.QueuesMoveOneWay : Prop :=
  ∀ s t : State, step s = .next t →
    (t.inq = s.inq ∨ (∃ d, busNext s 0x64 d ∧ s.inReady = true ∧ t.inq = s.inq ++ [d]) ∨
      (engineMoves s = true ∧ t.inq = s.inq.tail) ∨
      (t.inq = [] ∧ ((∃ d, actingCommandNext s d) ∨ resetNext s))) ∧
    (t.outq = s.outq ∨ (∃ d, busNext s 0x28 d ∧ t.outq = s.outq.tail) ∨
      (engineMoves s = true ∧ ∃ vs, t.outq = s.outq ++ vs) ∨
      (t.outq = [] ∧ ((∃ d, actingCommandNext s d) ∨ resetNext s)))

/-- ERR_CODE and ERR_POS change only by the engine in RUN with no error recorded, by an acting command, or by reset
(R30, R188); so the first error of an operation is the one recorded (R196), and no host transaction but a command
clears it (R195). -/
def Obligations.FirstErrorWins : Prop :=
  ∀ s t : State, step s = .next t → (∀ d, ¬ actingCommandNext s d) → ¬ resetNext s →
    (t.errCode = s.errCode ∧ t.errPos = s.errPos) ∨
      (engineMoves s = true ∧ s.phase = .run ∧ s.errCode = .none ∧ s.modeL = true ∧
        (t.errCode = .u8Trunc ∨ t.errCode = .u8Lead ∨ t.errCode = .b64Char))

/-- A step raises IRQ only by completing an operation with IRQ_EN = 1, by an illegal command while idle with IRQ_EN = 1,
or by a CTRL write that sets IRQ_EN with DONE = 1; PERR, the warnings and ERR_CODE do not drive it (R192). -/
def Obligations.IrqRisesForThreeReasons : Prop :=
  ∀ s t : State, step s = .next t → s.irq = false → t.irq = true →
    (engineMoves s = true ∧ s.irqEn = true ∧ s.phase ≠ .idle ∧ t.phase = .idle) ∨
    (s.irqEn = true ∧ s.phase = .idle ∧
      ∃ d, commandNext s d ∧ 5 ≤ (opcodeOf d).toNat ∧ (opcodeOf d).toNat ≤ 14) ∨
    (s.done = true ∧ ∃ d, busNext s 0x44 d ∧ d.getLsbD 0 = true)

/-- From the invariant, a turn of the engine keeps OUT_VALID = 1, keeps IN_READY = 1, and with DONE = 1 changes neither
DONE nor OUTQ (R58 a, b, c). -/
def Obligations.ReadyAndValidAreStable : Prop :=
  ∀ s t : State, Inv s → engineMoves s = true → step s = .next t →
    (s.outValid = true → t.outValid = true) ∧ (s.inReady = true → t.inReady = true) ∧
    (s.done = true → t.done = true ∧ t.outq = s.outq ∧ t.outCount = s.outCount)

/-- For every byte sequence and both modes, the decode function on the encode function's output emits the sequence with
code 0 and no flags: R155, an inference that the spec marks [derived]. -/
def Obligations.Base64RoundTrip : Prop :=
  ∀ (m : Bool) (b : List Byte),
    b64dFunction m (b64eFunction (b.map element)).emitted = Verdict.plain (b.map element)

/-- For every sequence of values up to 0x1FFFFF and both modes, the UTF-8 decode function on the encode function's
output emits the sequence with code 0 and no flags (R182 a); for every single 32-bit value it emits the value's low
21 bits (R182 b). -/
def Obligations.Utf8RoundTrip : Prop :=
  (∀ (m : Bool) (x : List Word), (∀ cp ∈ x, cp ≤ 0x1FFFFF) →
    u8dFunction m (u8eFunction x).emitted = Verdict.plain x) ∧
  ∀ (m : Bool) (cp : Word),
    u8dFunction m (u8eFunction [cp]).emitted = Verdict.plain [(cp.extractLsb' 0 21).setWidth 32]

/-- B64E of n elements has 4 * ceil(n/3) characters (R142 a), ends in exactly (3 - n mod 3) mod 3 PAD characters (R142
b), every character is an alphabet code or PAD, and PAD stands only in the last two positions (R142 c). -/
def Obligations.Base64EncodeShape : Prop :=
  ∀ x out : List Word, out = (b64eFunction x).emitted →
    out.length = 4 * ((x.length + 2) / 3) ∧
    (out.reverse.takeWhile (fun v => v == 0x3D)).length = (3 - x.length % 3) % 3 ∧
    (∀ v ∈ out, v = 0x3D ∨ ∃ i, v = element (alph i)) ∧
    ∀ v ∈ out.take (out.length - 2), ∃ i, v = element (alph i)

/-- B64D emits at most 3 * ceil(n/4) elements (R156), U8D at most n (R171), each at most 0x1FFFFF (R172), U8E at most 4n
(R208); B64D in substitute mode never fails (R156). -/
def Obligations.OutputLengthBounds : Prop :=
  ∀ (m : Bool) (x : List Word),
    (b64dFunction m x).emitted.length ≤ 3 * ((x.length + 3) / 4) ∧ (b64dFunction false x).code = .none ∧
    (u8dFunction m x).emitted.length ≤ x.length ∧ (∀ v ∈ (u8dFunction m x).emitted, v ≤ 0x1FFFFF) ∧
    (u8eFunction x).emitted.length ≤ 4 * x.length

/-- ALPH gives the 64 characters of the alphabet string in order (R71); INV gives back each index (INV(ALPH(i)) = i for
every i in 0–63, a sentence of R73 that the spec marks as its inference, [derived: from rule R71]), PAD for 0x3D,
and NONE for exactly the 191 other byte values (R73). -/
def Obligations.AlphabetAndItsInverse : Prop :=
  (List.range 64).map (fun i => (alph (BitVec.ofNat 6 i)).toNat) =
    "ABCDEFGHIJKLMNOPQRSTUVWXYZabcdefghijklmnopqrstuvwxyz0123456789+/".toList.map Char.toNat ∧
  (∀ i : Sextet, inv (alph i) = .index i) ∧ inv 0x3D = .pad ∧
  (∀ c : Byte, inv c ≠ .unrecognized → c = 0x3D ∨ ∃ i, c = alph i) ∧
  ((List.range 256).filter (fun c => inv (BitVec.ofNat 8 c) == .unrecognized)).length = 191

/-- Whatever 64-byte aligned BASE is, the bus address BASE + a, for each of the 64 offsets a, puts ADDR[5:0] = a before
the block, and no address below BASE or from BASE + 64 on reaches it. R49 and R6 give the window, its 64 bytes and
the alignment of BASE; how the platform decodes BASE is not part of the block (R49), so `offsetOf` and the clause
about outside addresses are the model's (log entry 9, DEDUCED), read by no step. -/
def Obligations.WindowOffsets : Prop :=
  Config.base % 64 = 0 ∧ (∀ a : BitVec 6, offsetOf (Config.base + a.toNat) = some a) ∧
  ∀ n : Nat, n < Config.base ∨ Config.base + 64 ≤ n → offsetOf n = none
end

