-- ==== Sys2Proof/Laws/Decode.lean ====
section
/-! SUPPORT. The small facts about word fields that the encoding proofs cite. -/

namespace Sys2Proof

/-- The bits a mask of 0x0F keeps are OPCODE (R62). -/
theorem opcodeOf_mask (d : Word) : d.setWidth 8 &&& 0x0F#8 = (opcodeOf d).setWidth 8 := by
  ext i hi
  simp only [opcodeOf, BitVec.getElem_and, BitVec.getElem_setWidth, BitVec.getLsbD_extractLsb']
  have : i = 0 ∨ i = 1 ∨ i = 2 ∨ i = 3 ∨ i = 4 ∨ i = 5 ∨ i = 6 ∨ i = 7 := by omega
  rcases this with rfl | rfl | rfl | rfl | rfl | rfl | rfl | rfl <;> simp

/-- The bits a mask of 0x1F keeps are MODE and OPCODE (R62). -/
theorem modeOf_mask (d : Word) :
    d.setWidth 8 &&& 0x1F#8 = (BitVec.ofBool (modeOf d) ++ opcodeOf d).setWidth 8 := by
  ext i hi
  simp only [opcodeOf, modeOf, BitVec.getElem_and, BitVec.getElem_setWidth, BitVec.getLsbD_append,
    BitVec.getLsbD_extractLsb']
  have : i = 0 ∨ i = 1 ∨ i = 2 ∨ i = 3 ∨ i = 4 ∨ i = 5 ∨ i = 6 ∨ i = 7 := by omega
  rcases this with rfl | rfl | rfl | rfl | rfl | rfl | rfl | rfl <;> simp

theorem hasOpcode_iff (op : BitVec 4) (d : Word) : hasOpcode op d = true ↔ opcodeOf d = op := by
  simp [hasOpcode]

theorem hasOpcodeAndMode_iff (op : BitVec 4) (m : Bool) (d : Word) :
    hasOpcodeAndMode op m d = true ↔ opcodeOf d = op ∧ modeOf d = m := by
  simp [hasOpcodeAndMode]

theorem addresses_iff (r : Reg) (addr : BitVec 6) : addresses r addr = true ↔ regAt addr = r := by
  simp [addresses]

/-- A read word's fields: WE = 0 and the offset (R80). -/
theorem readWord_fields (addr : BitVec 6) :
    (0#1 ++ addr).getLsbD 6 = false ∧ (0#1 ++ addr).extractLsb' 0 6 = addr := by
  revert addr; decide

/-- A write word's fields: WE = 1 and the offset (R80). -/
theorem writeWord_fields (addr : BitVec 6) :
    (1#1 ++ addr).getLsbD 6 = true ∧ (1#1 ++ addr).extractLsb' 0 6 = addr := by
  revert addr; decide

end Sys2Proof
end

