-- ==== Sys2Proof/Laws/State.lean ====
section
/-! SUPPORT. One lemma per field per update of State, each true by unfolding, so that no later proof unfolds a record update.
What an update leaves alone is its frame. -/

namespace Sys2Proof.Machine

variable (s : State)

@[simp] theorem respond_irqEn (v : Word) : (respond v s).irqEn = s.irqEn := rfl
@[simp] theorem respond_cmdOpcode (v : Word) : (respond v s).cmdOpcode = s.cmdOpcode := rfl
@[simp] theorem respond_cmdMode (v : Word) : (respond v s).cmdMode = s.cmdMode := rfl
@[simp] theorem respond_inLen (v : Word) : (respond v s).inLen = s.inLen := rfl
@[simp] theorem respond_done (v : Word) : (respond v s).done = s.done := rfl
@[simp] theorem respond_perr (v : Word) : (respond v s).perr = s.perr := rfl
@[simp] theorem respond_tail1 (v : Word) : (respond v s).tail1 = s.tail1 := rfl
@[simp] theorem respond_ovf (v : Word) : (respond v s).ovf = s.ovf := rfl
@[simp] theorem respond_lstop (v : Word) : (respond v s).lstop = s.lstop := rfl
@[simp] theorem respond_errCode (v : Word) : (respond v s).errCode = s.errCode := rfl
@[simp] theorem respond_errPos (v : Word) : (respond v s).errPos = s.errPos := rfl
@[simp] theorem respond_inCount (v : Word) : (respond v s).inCount = s.inCount := rfl
@[simp] theorem respond_outCount (v : Word) : (respond v s).outCount = s.outCount := rfl
@[simp] theorem respond_phase (v : Word) : (respond v s).phase = s.phase := rfl
@[simp] theorem respond_opL (v : Word) : (respond v s).opL = s.opL := rfl
@[simp] theorem respond_modeL (v : Word) : (respond v s).modeL = s.modeL := rfl
@[simp] theorem respond_lenL (v : Word) : (respond v s).lenL = s.lenL := rfl
@[simp] theorem respond_pushed (v : Word) : (respond v s).pushed = s.pushed := rfl
@[simp] theorem respond_inq (v : Word) : (respond v s).inq = s.inq := rfl
@[simp] theorem respond_outq (v : Word) : (respond v s).outq = s.outq := rfl
@[simp] theorem respond_acc (v : Word) : (respond v s).acc = s.acc := rfl
@[simp] theorem respond_k (v : Word) : (respond v s).k = s.k := rfl
@[simp] theorem respond_need (v : Word) : (respond v s).need = s.need := rfl
@[simp] theorem respond_leadPos (v : Word) : (respond v s).leadPos = s.leadPos := rfl
@[simp] theorem respond_rdData (v : Word) : (respond v s).rdData = v := rfl
@[simp] theorem respond_pending (v : Word) : (respond v s).pending = s.pending := rfl

@[simp] theorem raiseProtocolError_irqEn : (raiseProtocolError s).irqEn = s.irqEn := rfl
@[simp] theorem raiseProtocolError_cmdOpcode : (raiseProtocolError s).cmdOpcode = s.cmdOpcode := rfl
@[simp] theorem raiseProtocolError_cmdMode : (raiseProtocolError s).cmdMode = s.cmdMode := rfl
@[simp] theorem raiseProtocolError_inLen : (raiseProtocolError s).inLen = s.inLen := rfl
@[simp] theorem raiseProtocolError_done : (raiseProtocolError s).done = s.done := rfl
@[simp] theorem raiseProtocolError_perr : (raiseProtocolError s).perr = true := rfl
@[simp] theorem raiseProtocolError_tail1 : (raiseProtocolError s).tail1 = s.tail1 := rfl
@[simp] theorem raiseProtocolError_ovf : (raiseProtocolError s).ovf = s.ovf := rfl
@[simp] theorem raiseProtocolError_lstop : (raiseProtocolError s).lstop = s.lstop := rfl
@[simp] theorem raiseProtocolError_errCode : (raiseProtocolError s).errCode = s.errCode := rfl
@[simp] theorem raiseProtocolError_errPos : (raiseProtocolError s).errPos = s.errPos := rfl
@[simp] theorem raiseProtocolError_inCount : (raiseProtocolError s).inCount = s.inCount := rfl
@[simp] theorem raiseProtocolError_outCount : (raiseProtocolError s).outCount = s.outCount := rfl
@[simp] theorem raiseProtocolError_phase : (raiseProtocolError s).phase = s.phase := rfl
@[simp] theorem raiseProtocolError_opL : (raiseProtocolError s).opL = s.opL := rfl
@[simp] theorem raiseProtocolError_modeL : (raiseProtocolError s).modeL = s.modeL := rfl
@[simp] theorem raiseProtocolError_lenL : (raiseProtocolError s).lenL = s.lenL := rfl
@[simp] theorem raiseProtocolError_pushed : (raiseProtocolError s).pushed = s.pushed := rfl
@[simp] theorem raiseProtocolError_inq : (raiseProtocolError s).inq = s.inq := rfl
@[simp] theorem raiseProtocolError_outq : (raiseProtocolError s).outq = s.outq := rfl
@[simp] theorem raiseProtocolError_acc : (raiseProtocolError s).acc = s.acc := rfl
@[simp] theorem raiseProtocolError_k : (raiseProtocolError s).k = s.k := rfl
@[simp] theorem raiseProtocolError_need : (raiseProtocolError s).need = s.need := rfl
@[simp] theorem raiseProtocolError_leadPos : (raiseProtocolError s).leadPos = s.leadPos := rfl
@[simp] theorem raiseProtocolError_rdData : (raiseProtocolError s).rdData = s.rdData := rfl
@[simp] theorem raiseProtocolError_pending : (raiseProtocolError s).pending = s.pending := rfl

@[simp] theorem acknowledge_irqEn (a b : Bool) : (acknowledge a b s).irqEn = s.irqEn := rfl
@[simp] theorem acknowledge_cmdOpcode (a b : Bool) : (acknowledge a b s).cmdOpcode = s.cmdOpcode := rfl
@[simp] theorem acknowledge_cmdMode (a b : Bool) : (acknowledge a b s).cmdMode = s.cmdMode := rfl
@[simp] theorem acknowledge_inLen (a b : Bool) : (acknowledge a b s).inLen = s.inLen := rfl
@[simp] theorem acknowledge_done (a b : Bool) : (acknowledge a b s).done = (s.done && !a) := rfl
@[simp] theorem acknowledge_perr (a b : Bool) : (acknowledge a b s).perr = (s.perr && !b) := rfl
@[simp] theorem acknowledge_tail1 (a b : Bool) : (acknowledge a b s).tail1 = s.tail1 := rfl
@[simp] theorem acknowledge_ovf (a b : Bool) : (acknowledge a b s).ovf = s.ovf := rfl
@[simp] theorem acknowledge_lstop (a b : Bool) : (acknowledge a b s).lstop = s.lstop := rfl
@[simp] theorem acknowledge_errCode (a b : Bool) : (acknowledge a b s).errCode = s.errCode := rfl
@[simp] theorem acknowledge_errPos (a b : Bool) : (acknowledge a b s).errPos = s.errPos := rfl
@[simp] theorem acknowledge_inCount (a b : Bool) : (acknowledge a b s).inCount = s.inCount := rfl
@[simp] theorem acknowledge_outCount (a b : Bool) : (acknowledge a b s).outCount = s.outCount := rfl
@[simp] theorem acknowledge_phase (a b : Bool) : (acknowledge a b s).phase = s.phase := rfl
@[simp] theorem acknowledge_opL (a b : Bool) : (acknowledge a b s).opL = s.opL := rfl
@[simp] theorem acknowledge_modeL (a b : Bool) : (acknowledge a b s).modeL = s.modeL := rfl
@[simp] theorem acknowledge_lenL (a b : Bool) : (acknowledge a b s).lenL = s.lenL := rfl
@[simp] theorem acknowledge_pushed (a b : Bool) : (acknowledge a b s).pushed = s.pushed := rfl
@[simp] theorem acknowledge_inq (a b : Bool) : (acknowledge a b s).inq = s.inq := rfl
@[simp] theorem acknowledge_outq (a b : Bool) : (acknowledge a b s).outq = s.outq := rfl
@[simp] theorem acknowledge_acc (a b : Bool) : (acknowledge a b s).acc = s.acc := rfl
@[simp] theorem acknowledge_k (a b : Bool) : (acknowledge a b s).k = s.k := rfl
@[simp] theorem acknowledge_need (a b : Bool) : (acknowledge a b s).need = s.need := rfl
@[simp] theorem acknowledge_leadPos (a b : Bool) : (acknowledge a b s).leadPos = s.leadPos := rfl
@[simp] theorem acknowledge_rdData (a b : Bool) : (acknowledge a b s).rdData = s.rdData := rfl
@[simp] theorem acknowledge_pending (a b : Bool) : (acknowledge a b s).pending = s.pending := rfl

@[simp] theorem pushInput_irqEn (v : Word) : (pushInput v s).irqEn = s.irqEn := rfl
@[simp] theorem pushInput_cmdOpcode (v : Word) : (pushInput v s).cmdOpcode = s.cmdOpcode := rfl
@[simp] theorem pushInput_cmdMode (v : Word) : (pushInput v s).cmdMode = s.cmdMode := rfl
@[simp] theorem pushInput_inLen (v : Word) : (pushInput v s).inLen = s.inLen := rfl
@[simp] theorem pushInput_done (v : Word) : (pushInput v s).done = s.done := rfl
@[simp] theorem pushInput_perr (v : Word) : (pushInput v s).perr = s.perr := rfl
@[simp] theorem pushInput_tail1 (v : Word) : (pushInput v s).tail1 = s.tail1 := rfl
@[simp] theorem pushInput_ovf (v : Word) : (pushInput v s).ovf = s.ovf := rfl
@[simp] theorem pushInput_lstop (v : Word) : (pushInput v s).lstop = s.lstop := rfl
@[simp] theorem pushInput_errCode (v : Word) : (pushInput v s).errCode = s.errCode := rfl
@[simp] theorem pushInput_errPos (v : Word) : (pushInput v s).errPos = s.errPos := rfl
@[simp] theorem pushInput_inCount (v : Word) : (pushInput v s).inCount = s.inCount := rfl
@[simp] theorem pushInput_outCount (v : Word) : (pushInput v s).outCount = s.outCount := rfl
@[simp] theorem pushInput_phase (v : Word) : (pushInput v s).phase = s.phase := rfl
@[simp] theorem pushInput_opL (v : Word) : (pushInput v s).opL = s.opL := rfl
@[simp] theorem pushInput_modeL (v : Word) : (pushInput v s).modeL = s.modeL := rfl
@[simp] theorem pushInput_lenL (v : Word) : (pushInput v s).lenL = s.lenL := rfl
@[simp] theorem pushInput_pushed (v : Word) : (pushInput v s).pushed = s.pushed + 1 := rfl
@[simp] theorem pushInput_inq (v : Word) : (pushInput v s).inq = s.inq ++ [v] := rfl
@[simp] theorem pushInput_outq (v : Word) : (pushInput v s).outq = s.outq := rfl
@[simp] theorem pushInput_acc (v : Word) : (pushInput v s).acc = s.acc := rfl
@[simp] theorem pushInput_k (v : Word) : (pushInput v s).k = s.k := rfl
@[simp] theorem pushInput_need (v : Word) : (pushInput v s).need = s.need := rfl
@[simp] theorem pushInput_leadPos (v : Word) : (pushInput v s).leadPos = s.leadPos := rfl
@[simp] theorem pushInput_rdData (v : Word) : (pushInput v s).rdData = s.rdData := rfl
@[simp] theorem pushInput_pending (v : Word) : (pushInput v s).pending = s.pending := rfl

@[simp] theorem popInput_irqEn : (popInput s).irqEn = s.irqEn := rfl
@[simp] theorem popInput_cmdOpcode : (popInput s).cmdOpcode = s.cmdOpcode := rfl
@[simp] theorem popInput_cmdMode : (popInput s).cmdMode = s.cmdMode := rfl
@[simp] theorem popInput_inLen : (popInput s).inLen = s.inLen := rfl
@[simp] theorem popInput_done : (popInput s).done = s.done := rfl
@[simp] theorem popInput_perr : (popInput s).perr = s.perr := rfl
@[simp] theorem popInput_tail1 : (popInput s).tail1 = s.tail1 := rfl
@[simp] theorem popInput_ovf : (popInput s).ovf = s.ovf := rfl
@[simp] theorem popInput_lstop : (popInput s).lstop = s.lstop := rfl
@[simp] theorem popInput_errCode : (popInput s).errCode = s.errCode := rfl
@[simp] theorem popInput_errPos : (popInput s).errPos = s.errPos := rfl
@[simp] theorem popInput_inCount : (popInput s).inCount = s.inCount + 1 := rfl
@[simp] theorem popInput_outCount : (popInput s).outCount = s.outCount := rfl
@[simp] theorem popInput_phase : (popInput s).phase = s.phase := rfl
@[simp] theorem popInput_opL : (popInput s).opL = s.opL := rfl
@[simp] theorem popInput_modeL : (popInput s).modeL = s.modeL := rfl
@[simp] theorem popInput_lenL : (popInput s).lenL = s.lenL := rfl
@[simp] theorem popInput_pushed : (popInput s).pushed = s.pushed := rfl
@[simp] theorem popInput_inq : (popInput s).inq = s.inq.tail := rfl
@[simp] theorem popInput_outq : (popInput s).outq = s.outq := rfl
@[simp] theorem popInput_acc : (popInput s).acc = s.acc := rfl
@[simp] theorem popInput_k : (popInput s).k = s.k := rfl
@[simp] theorem popInput_need : (popInput s).need = s.need := rfl
@[simp] theorem popInput_leadPos : (popInput s).leadPos = s.leadPos := rfl
@[simp] theorem popInput_rdData : (popInput s).rdData = s.rdData := rfl
@[simp] theorem popInput_pending : (popInput s).pending = s.pending := rfl

@[simp] theorem popOutput_irqEn : (popOutput s).irqEn = s.irqEn := rfl
@[simp] theorem popOutput_cmdOpcode : (popOutput s).cmdOpcode = s.cmdOpcode := rfl
@[simp] theorem popOutput_cmdMode : (popOutput s).cmdMode = s.cmdMode := rfl
@[simp] theorem popOutput_inLen : (popOutput s).inLen = s.inLen := rfl
@[simp] theorem popOutput_done : (popOutput s).done = s.done := rfl
@[simp] theorem popOutput_perr : (popOutput s).perr = s.perr := rfl
@[simp] theorem popOutput_tail1 : (popOutput s).tail1 = s.tail1 := rfl
@[simp] theorem popOutput_ovf : (popOutput s).ovf = s.ovf := rfl
@[simp] theorem popOutput_lstop : (popOutput s).lstop = s.lstop := rfl
@[simp] theorem popOutput_errCode : (popOutput s).errCode = s.errCode := rfl
@[simp] theorem popOutput_errPos : (popOutput s).errPos = s.errPos := rfl
@[simp] theorem popOutput_inCount : (popOutput s).inCount = s.inCount := rfl
@[simp] theorem popOutput_outCount : (popOutput s).outCount = s.outCount := rfl
@[simp] theorem popOutput_phase : (popOutput s).phase = s.phase := rfl
@[simp] theorem popOutput_opL : (popOutput s).opL = s.opL := rfl
@[simp] theorem popOutput_modeL : (popOutput s).modeL = s.modeL := rfl
@[simp] theorem popOutput_lenL : (popOutput s).lenL = s.lenL := rfl
@[simp] theorem popOutput_pushed : (popOutput s).pushed = s.pushed := rfl
@[simp] theorem popOutput_inq : (popOutput s).inq = s.inq := rfl
@[simp] theorem popOutput_outq : (popOutput s).outq = s.outq.tail := rfl
@[simp] theorem popOutput_acc : (popOutput s).acc = s.acc := rfl
@[simp] theorem popOutput_k : (popOutput s).k = s.k := rfl
@[simp] theorem popOutput_need : (popOutput s).need = s.need := rfl
@[simp] theorem popOutput_leadPos : (popOutput s).leadPos = s.leadPos := rfl
@[simp] theorem popOutput_rdData : (popOutput s).rdData = s.rdData := rfl
@[simp] theorem popOutput_pending : (popOutput s).pending = s.pending := rfl

@[simp] theorem emit_irqEn (v : Word) : (emit v s).irqEn = s.irqEn := rfl
@[simp] theorem emit_cmdOpcode (v : Word) : (emit v s).cmdOpcode = s.cmdOpcode := rfl
@[simp] theorem emit_cmdMode (v : Word) : (emit v s).cmdMode = s.cmdMode := rfl
@[simp] theorem emit_inLen (v : Word) : (emit v s).inLen = s.inLen := rfl
@[simp] theorem emit_done (v : Word) : (emit v s).done = s.done := rfl
@[simp] theorem emit_perr (v : Word) : (emit v s).perr = s.perr := rfl
@[simp] theorem emit_tail1 (v : Word) : (emit v s).tail1 = s.tail1 := rfl
@[simp] theorem emit_ovf (v : Word) : (emit v s).ovf = s.ovf := rfl
@[simp] theorem emit_lstop (v : Word) : (emit v s).lstop = s.lstop := rfl
@[simp] theorem emit_errCode (v : Word) : (emit v s).errCode = s.errCode := rfl
@[simp] theorem emit_errPos (v : Word) : (emit v s).errPos = s.errPos := rfl
@[simp] theorem emit_inCount (v : Word) : (emit v s).inCount = s.inCount := rfl
@[simp] theorem emit_outCount (v : Word) : (emit v s).outCount = s.outCount + 1 := rfl
@[simp] theorem emit_phase (v : Word) : (emit v s).phase = s.phase := rfl
@[simp] theorem emit_opL (v : Word) : (emit v s).opL = s.opL := rfl
@[simp] theorem emit_modeL (v : Word) : (emit v s).modeL = s.modeL := rfl
@[simp] theorem emit_lenL (v : Word) : (emit v s).lenL = s.lenL := rfl
@[simp] theorem emit_pushed (v : Word) : (emit v s).pushed = s.pushed := rfl
@[simp] theorem emit_inq (v : Word) : (emit v s).inq = s.inq := rfl
@[simp] theorem emit_outq (v : Word) : (emit v s).outq = s.outq ++ [v] := rfl
@[simp] theorem emit_acc (v : Word) : (emit v s).acc = s.acc := rfl
@[simp] theorem emit_k (v : Word) : (emit v s).k = s.k := rfl
@[simp] theorem emit_need (v : Word) : (emit v s).need = s.need := rfl
@[simp] theorem emit_leadPos (v : Word) : (emit v s).leadPos = s.leadPos := rfl
@[simp] theorem emit_rdData (v : Word) : (emit v s).rdData = s.rdData := rfl
@[simp] theorem emit_pending (v : Word) : (emit v s).pending = s.pending := rfl

@[simp] theorem enterDrain_irqEn : (enterDrain s).irqEn = s.irqEn := rfl
@[simp] theorem enterDrain_cmdOpcode : (enterDrain s).cmdOpcode = s.cmdOpcode := rfl
@[simp] theorem enterDrain_cmdMode : (enterDrain s).cmdMode = s.cmdMode := rfl
@[simp] theorem enterDrain_inLen : (enterDrain s).inLen = s.inLen := rfl
@[simp] theorem enterDrain_done : (enterDrain s).done = s.done := rfl
@[simp] theorem enterDrain_perr : (enterDrain s).perr = s.perr := rfl
@[simp] theorem enterDrain_tail1 : (enterDrain s).tail1 = s.tail1 := rfl
@[simp] theorem enterDrain_ovf : (enterDrain s).ovf = s.ovf := rfl
@[simp] theorem enterDrain_lstop : (enterDrain s).lstop = s.lstop := rfl
@[simp] theorem enterDrain_errCode : (enterDrain s).errCode = s.errCode := rfl
@[simp] theorem enterDrain_errPos : (enterDrain s).errPos = s.errPos := rfl
@[simp] theorem enterDrain_inCount : (enterDrain s).inCount = s.inCount := rfl
@[simp] theorem enterDrain_outCount : (enterDrain s).outCount = s.outCount := rfl
@[simp] theorem enterDrain_phase : (enterDrain s).phase = .drain := rfl
@[simp] theorem enterDrain_opL : (enterDrain s).opL = s.opL := rfl
@[simp] theorem enterDrain_modeL : (enterDrain s).modeL = s.modeL := rfl
@[simp] theorem enterDrain_lenL : (enterDrain s).lenL = s.lenL := rfl
@[simp] theorem enterDrain_pushed : (enterDrain s).pushed = s.pushed := rfl
@[simp] theorem enterDrain_inq : (enterDrain s).inq = s.inq := rfl
@[simp] theorem enterDrain_outq : (enterDrain s).outq = s.outq := rfl
@[simp] theorem enterDrain_acc : (enterDrain s).acc = s.acc := rfl
@[simp] theorem enterDrain_k : (enterDrain s).k = s.k := rfl
@[simp] theorem enterDrain_need : (enterDrain s).need = s.need := rfl
@[simp] theorem enterDrain_leadPos : (enterDrain s).leadPos = s.leadPos := rfl
@[simp] theorem enterDrain_rdData : (enterDrain s).rdData = s.rdData := rfl
@[simp] theorem enterDrain_pending : (enterDrain s).pending = s.pending := rfl

@[simp] theorem setGroup_irqEn (a : BitVec 24) (n : BitVec 2) : (setGroup a n s).irqEn = s.irqEn := rfl
@[simp] theorem setGroup_cmdOpcode (a : BitVec 24) (n : BitVec 2) : (setGroup a n s).cmdOpcode = s.cmdOpcode := rfl
@[simp] theorem setGroup_cmdMode (a : BitVec 24) (n : BitVec 2) : (setGroup a n s).cmdMode = s.cmdMode := rfl
@[simp] theorem setGroup_inLen (a : BitVec 24) (n : BitVec 2) : (setGroup a n s).inLen = s.inLen := rfl
@[simp] theorem setGroup_done (a : BitVec 24) (n : BitVec 2) : (setGroup a n s).done = s.done := rfl
@[simp] theorem setGroup_perr (a : BitVec 24) (n : BitVec 2) : (setGroup a n s).perr = s.perr := rfl
@[simp] theorem setGroup_tail1 (a : BitVec 24) (n : BitVec 2) : (setGroup a n s).tail1 = s.tail1 := rfl
@[simp] theorem setGroup_ovf (a : BitVec 24) (n : BitVec 2) : (setGroup a n s).ovf = s.ovf := rfl
@[simp] theorem setGroup_lstop (a : BitVec 24) (n : BitVec 2) : (setGroup a n s).lstop = s.lstop := rfl
@[simp] theorem setGroup_errCode (a : BitVec 24) (n : BitVec 2) : (setGroup a n s).errCode = s.errCode := rfl
@[simp] theorem setGroup_errPos (a : BitVec 24) (n : BitVec 2) : (setGroup a n s).errPos = s.errPos := rfl
@[simp] theorem setGroup_inCount (a : BitVec 24) (n : BitVec 2) : (setGroup a n s).inCount = s.inCount := rfl
@[simp] theorem setGroup_outCount (a : BitVec 24) (n : BitVec 2) : (setGroup a n s).outCount = s.outCount := rfl
@[simp] theorem setGroup_phase (a : BitVec 24) (n : BitVec 2) : (setGroup a n s).phase = s.phase := rfl
@[simp] theorem setGroup_opL (a : BitVec 24) (n : BitVec 2) : (setGroup a n s).opL = s.opL := rfl
@[simp] theorem setGroup_modeL (a : BitVec 24) (n : BitVec 2) : (setGroup a n s).modeL = s.modeL := rfl
@[simp] theorem setGroup_lenL (a : BitVec 24) (n : BitVec 2) : (setGroup a n s).lenL = s.lenL := rfl
@[simp] theorem setGroup_pushed (a : BitVec 24) (n : BitVec 2) : (setGroup a n s).pushed = s.pushed := rfl
@[simp] theorem setGroup_inq (a : BitVec 24) (n : BitVec 2) : (setGroup a n s).inq = s.inq := rfl
@[simp] theorem setGroup_outq (a : BitVec 24) (n : BitVec 2) : (setGroup a n s).outq = s.outq := rfl
@[simp] theorem setGroup_acc (a : BitVec 24) (n : BitVec 2) : (setGroup a n s).acc = a := rfl
@[simp] theorem setGroup_k (a : BitVec 24) (n : BitVec 2) : (setGroup a n s).k = n := rfl
@[simp] theorem setGroup_need (a : BitVec 24) (n : BitVec 2) : (setGroup a n s).need = s.need := rfl
@[simp] theorem setGroup_leadPos (a : BitVec 24) (n : BitVec 2) : (setGroup a n s).leadPos = s.leadPos := rfl
@[simp] theorem setGroup_rdData (a : BitVec 24) (n : BitVec 2) : (setGroup a n s).rdData = s.rdData := rfl
@[simp] theorem setGroup_pending (a : BitVec 24) (n : BitVec 2) : (setGroup a n s).pending = s.pending := rfl

@[simp] theorem setSequence_irqEn (a : BitVec 24) (n : BitVec 2) : (setSequence a n s).irqEn = s.irqEn := rfl
@[simp] theorem setSequence_cmdOpcode (a : BitVec 24) (n : BitVec 2) : (setSequence a n s).cmdOpcode = s.cmdOpcode := rfl
@[simp] theorem setSequence_cmdMode (a : BitVec 24) (n : BitVec 2) : (setSequence a n s).cmdMode = s.cmdMode := rfl
@[simp] theorem setSequence_inLen (a : BitVec 24) (n : BitVec 2) : (setSequence a n s).inLen = s.inLen := rfl
@[simp] theorem setSequence_done (a : BitVec 24) (n : BitVec 2) : (setSequence a n s).done = s.done := rfl
@[simp] theorem setSequence_perr (a : BitVec 24) (n : BitVec 2) : (setSequence a n s).perr = s.perr := rfl
@[simp] theorem setSequence_tail1 (a : BitVec 24) (n : BitVec 2) : (setSequence a n s).tail1 = s.tail1 := rfl
@[simp] theorem setSequence_ovf (a : BitVec 24) (n : BitVec 2) : (setSequence a n s).ovf = s.ovf := rfl
@[simp] theorem setSequence_lstop (a : BitVec 24) (n : BitVec 2) : (setSequence a n s).lstop = s.lstop := rfl
@[simp] theorem setSequence_errCode (a : BitVec 24) (n : BitVec 2) : (setSequence a n s).errCode = s.errCode := rfl
@[simp] theorem setSequence_errPos (a : BitVec 24) (n : BitVec 2) : (setSequence a n s).errPos = s.errPos := rfl
@[simp] theorem setSequence_inCount (a : BitVec 24) (n : BitVec 2) : (setSequence a n s).inCount = s.inCount := rfl
@[simp] theorem setSequence_outCount (a : BitVec 24) (n : BitVec 2) : (setSequence a n s).outCount = s.outCount := rfl
@[simp] theorem setSequence_phase (a : BitVec 24) (n : BitVec 2) : (setSequence a n s).phase = s.phase := rfl
@[simp] theorem setSequence_opL (a : BitVec 24) (n : BitVec 2) : (setSequence a n s).opL = s.opL := rfl
@[simp] theorem setSequence_modeL (a : BitVec 24) (n : BitVec 2) : (setSequence a n s).modeL = s.modeL := rfl
@[simp] theorem setSequence_lenL (a : BitVec 24) (n : BitVec 2) : (setSequence a n s).lenL = s.lenL := rfl
@[simp] theorem setSequence_pushed (a : BitVec 24) (n : BitVec 2) : (setSequence a n s).pushed = s.pushed := rfl
@[simp] theorem setSequence_inq (a : BitVec 24) (n : BitVec 2) : (setSequence a n s).inq = s.inq := rfl
@[simp] theorem setSequence_outq (a : BitVec 24) (n : BitVec 2) : (setSequence a n s).outq = s.outq := rfl
@[simp] theorem setSequence_acc (a : BitVec 24) (n : BitVec 2) : (setSequence a n s).acc = a := rfl
@[simp] theorem setSequence_k (a : BitVec 24) (n : BitVec 2) : (setSequence a n s).k = s.k := rfl
@[simp] theorem setSequence_need (a : BitVec 24) (n : BitVec 2) : (setSequence a n s).need = n := rfl
@[simp] theorem setSequence_leadPos (a : BitVec 24) (n : BitVec 2) : (setSequence a n s).leadPos = s.leadPos := rfl
@[simp] theorem setSequence_rdData (a : BitVec 24) (n : BitVec 2) : (setSequence a n s).rdData = s.rdData := rfl
@[simp] theorem setSequence_pending (a : BitVec 24) (n : BitVec 2) : (setSequence a n s).pending = s.pending := rfl

@[simp] theorem setLeadPos_irqEn (p : Word) : (setLeadPos p s).irqEn = s.irqEn := rfl
@[simp] theorem setLeadPos_cmdOpcode (p : Word) : (setLeadPos p s).cmdOpcode = s.cmdOpcode := rfl
@[simp] theorem setLeadPos_cmdMode (p : Word) : (setLeadPos p s).cmdMode = s.cmdMode := rfl
@[simp] theorem setLeadPos_inLen (p : Word) : (setLeadPos p s).inLen = s.inLen := rfl
@[simp] theorem setLeadPos_done (p : Word) : (setLeadPos p s).done = s.done := rfl
@[simp] theorem setLeadPos_perr (p : Word) : (setLeadPos p s).perr = s.perr := rfl
@[simp] theorem setLeadPos_tail1 (p : Word) : (setLeadPos p s).tail1 = s.tail1 := rfl
@[simp] theorem setLeadPos_ovf (p : Word) : (setLeadPos p s).ovf = s.ovf := rfl
@[simp] theorem setLeadPos_lstop (p : Word) : (setLeadPos p s).lstop = s.lstop := rfl
@[simp] theorem setLeadPos_errCode (p : Word) : (setLeadPos p s).errCode = s.errCode := rfl
@[simp] theorem setLeadPos_errPos (p : Word) : (setLeadPos p s).errPos = s.errPos := rfl
@[simp] theorem setLeadPos_inCount (p : Word) : (setLeadPos p s).inCount = s.inCount := rfl
@[simp] theorem setLeadPos_outCount (p : Word) : (setLeadPos p s).outCount = s.outCount := rfl
@[simp] theorem setLeadPos_phase (p : Word) : (setLeadPos p s).phase = s.phase := rfl
@[simp] theorem setLeadPos_opL (p : Word) : (setLeadPos p s).opL = s.opL := rfl
@[simp] theorem setLeadPos_modeL (p : Word) : (setLeadPos p s).modeL = s.modeL := rfl
@[simp] theorem setLeadPos_lenL (p : Word) : (setLeadPos p s).lenL = s.lenL := rfl
@[simp] theorem setLeadPos_pushed (p : Word) : (setLeadPos p s).pushed = s.pushed := rfl
@[simp] theorem setLeadPos_inq (p : Word) : (setLeadPos p s).inq = s.inq := rfl
@[simp] theorem setLeadPos_outq (p : Word) : (setLeadPos p s).outq = s.outq := rfl
@[simp] theorem setLeadPos_acc (p : Word) : (setLeadPos p s).acc = s.acc := rfl
@[simp] theorem setLeadPos_k (p : Word) : (setLeadPos p s).k = s.k := rfl
@[simp] theorem setLeadPos_need (p : Word) : (setLeadPos p s).need = s.need := rfl
@[simp] theorem setLeadPos_leadPos (p : Word) : (setLeadPos p s).leadPos = p := rfl
@[simp] theorem setLeadPos_rdData (p : Word) : (setLeadPos p s).rdData = s.rdData := rfl
@[simp] theorem setLeadPos_pending (p : Word) : (setLeadPos p s).pending = s.pending := rfl

@[simp] theorem setTail1_irqEn : (setTail1 s).irqEn = s.irqEn := rfl
@[simp] theorem setTail1_cmdOpcode : (setTail1 s).cmdOpcode = s.cmdOpcode := rfl
@[simp] theorem setTail1_cmdMode : (setTail1 s).cmdMode = s.cmdMode := rfl
@[simp] theorem setTail1_inLen : (setTail1 s).inLen = s.inLen := rfl
@[simp] theorem setTail1_done : (setTail1 s).done = s.done := rfl
@[simp] theorem setTail1_perr : (setTail1 s).perr = s.perr := rfl
@[simp] theorem setTail1_tail1 : (setTail1 s).tail1 = true := rfl
@[simp] theorem setTail1_ovf : (setTail1 s).ovf = s.ovf := rfl
@[simp] theorem setTail1_lstop : (setTail1 s).lstop = s.lstop := rfl
@[simp] theorem setTail1_errCode : (setTail1 s).errCode = s.errCode := rfl
@[simp] theorem setTail1_errPos : (setTail1 s).errPos = s.errPos := rfl
@[simp] theorem setTail1_inCount : (setTail1 s).inCount = s.inCount := rfl
@[simp] theorem setTail1_outCount : (setTail1 s).outCount = s.outCount := rfl
@[simp] theorem setTail1_phase : (setTail1 s).phase = s.phase := rfl
@[simp] theorem setTail1_opL : (setTail1 s).opL = s.opL := rfl
@[simp] theorem setTail1_modeL : (setTail1 s).modeL = s.modeL := rfl
@[simp] theorem setTail1_lenL : (setTail1 s).lenL = s.lenL := rfl
@[simp] theorem setTail1_pushed : (setTail1 s).pushed = s.pushed := rfl
@[simp] theorem setTail1_inq : (setTail1 s).inq = s.inq := rfl
@[simp] theorem setTail1_outq : (setTail1 s).outq = s.outq := rfl
@[simp] theorem setTail1_acc : (setTail1 s).acc = s.acc := rfl
@[simp] theorem setTail1_k : (setTail1 s).k = s.k := rfl
@[simp] theorem setTail1_need : (setTail1 s).need = s.need := rfl
@[simp] theorem setTail1_leadPos : (setTail1 s).leadPos = s.leadPos := rfl
@[simp] theorem setTail1_rdData : (setTail1 s).rdData = s.rdData := rfl
@[simp] theorem setTail1_pending : (setTail1 s).pending = s.pending := rfl

@[simp] theorem setOvf_irqEn : (setOvf s).irqEn = s.irqEn := rfl
@[simp] theorem setOvf_cmdOpcode : (setOvf s).cmdOpcode = s.cmdOpcode := rfl
@[simp] theorem setOvf_cmdMode : (setOvf s).cmdMode = s.cmdMode := rfl
@[simp] theorem setOvf_inLen : (setOvf s).inLen = s.inLen := rfl
@[simp] theorem setOvf_done : (setOvf s).done = s.done := rfl
@[simp] theorem setOvf_perr : (setOvf s).perr = s.perr := rfl
@[simp] theorem setOvf_tail1 : (setOvf s).tail1 = s.tail1 := rfl
@[simp] theorem setOvf_ovf : (setOvf s).ovf = true := rfl
@[simp] theorem setOvf_lstop : (setOvf s).lstop = s.lstop := rfl
@[simp] theorem setOvf_errCode : (setOvf s).errCode = s.errCode := rfl
@[simp] theorem setOvf_errPos : (setOvf s).errPos = s.errPos := rfl
@[simp] theorem setOvf_inCount : (setOvf s).inCount = s.inCount := rfl
@[simp] theorem setOvf_outCount : (setOvf s).outCount = s.outCount := rfl
@[simp] theorem setOvf_phase : (setOvf s).phase = s.phase := rfl
@[simp] theorem setOvf_opL : (setOvf s).opL = s.opL := rfl
@[simp] theorem setOvf_modeL : (setOvf s).modeL = s.modeL := rfl
@[simp] theorem setOvf_lenL : (setOvf s).lenL = s.lenL := rfl
@[simp] theorem setOvf_pushed : (setOvf s).pushed = s.pushed := rfl
@[simp] theorem setOvf_inq : (setOvf s).inq = s.inq := rfl
@[simp] theorem setOvf_outq : (setOvf s).outq = s.outq := rfl
@[simp] theorem setOvf_acc : (setOvf s).acc = s.acc := rfl
@[simp] theorem setOvf_k : (setOvf s).k = s.k := rfl
@[simp] theorem setOvf_need : (setOvf s).need = s.need := rfl
@[simp] theorem setOvf_leadPos : (setOvf s).leadPos = s.leadPos := rfl
@[simp] theorem setOvf_rdData : (setOvf s).rdData = s.rdData := rfl
@[simp] theorem setOvf_pending : (setOvf s).pending = s.pending := rfl

@[simp] theorem setLstop_irqEn : (setLstop s).irqEn = s.irqEn := rfl
@[simp] theorem setLstop_cmdOpcode : (setLstop s).cmdOpcode = s.cmdOpcode := rfl
@[simp] theorem setLstop_cmdMode : (setLstop s).cmdMode = s.cmdMode := rfl
@[simp] theorem setLstop_inLen : (setLstop s).inLen = s.inLen := rfl
@[simp] theorem setLstop_done : (setLstop s).done = s.done := rfl
@[simp] theorem setLstop_perr : (setLstop s).perr = s.perr := rfl
@[simp] theorem setLstop_tail1 : (setLstop s).tail1 = s.tail1 := rfl
@[simp] theorem setLstop_ovf : (setLstop s).ovf = s.ovf := rfl
@[simp] theorem setLstop_lstop : (setLstop s).lstop = true := rfl
@[simp] theorem setLstop_errCode : (setLstop s).errCode = s.errCode := rfl
@[simp] theorem setLstop_errPos : (setLstop s).errPos = s.errPos := rfl
@[simp] theorem setLstop_inCount : (setLstop s).inCount = s.inCount := rfl
@[simp] theorem setLstop_outCount : (setLstop s).outCount = s.outCount := rfl
@[simp] theorem setLstop_phase : (setLstop s).phase = s.phase := rfl
@[simp] theorem setLstop_opL : (setLstop s).opL = s.opL := rfl
@[simp] theorem setLstop_modeL : (setLstop s).modeL = s.modeL := rfl
@[simp] theorem setLstop_lenL : (setLstop s).lenL = s.lenL := rfl
@[simp] theorem setLstop_pushed : (setLstop s).pushed = s.pushed := rfl
@[simp] theorem setLstop_inq : (setLstop s).inq = s.inq := rfl
@[simp] theorem setLstop_outq : (setLstop s).outq = s.outq := rfl
@[simp] theorem setLstop_acc : (setLstop s).acc = s.acc := rfl
@[simp] theorem setLstop_k : (setLstop s).k = s.k := rfl
@[simp] theorem setLstop_need : (setLstop s).need = s.need := rfl
@[simp] theorem setLstop_leadPos : (setLstop s).leadPos = s.leadPos := rfl
@[simp] theorem setLstop_rdData : (setLstop s).rdData = s.rdData := rfl
@[simp] theorem setLstop_pending : (setLstop s).pending = s.pending := rfl

@[simp] theorem complete_irqEn : (complete s).irqEn = s.irqEn := rfl
@[simp] theorem complete_cmdOpcode : (complete s).cmdOpcode = s.cmdOpcode := rfl
@[simp] theorem complete_cmdMode : (complete s).cmdMode = s.cmdMode := rfl
@[simp] theorem complete_inLen : (complete s).inLen = s.inLen := rfl
@[simp] theorem complete_done : (complete s).done = true := rfl
@[simp] theorem complete_perr : (complete s).perr = s.perr := rfl
@[simp] theorem complete_tail1 : (complete s).tail1 = s.tail1 := rfl
@[simp] theorem complete_ovf : (complete s).ovf = s.ovf := rfl
@[simp] theorem complete_lstop : (complete s).lstop = s.lstop := rfl
@[simp] theorem complete_errCode : (complete s).errCode = s.errCode := rfl
@[simp] theorem complete_errPos : (complete s).errPos = s.errPos := rfl
@[simp] theorem complete_inCount : (complete s).inCount = s.inCount := rfl
@[simp] theorem complete_outCount : (complete s).outCount = s.outCount := rfl
@[simp] theorem complete_phase : (complete s).phase = .idle := rfl
@[simp] theorem complete_opL : (complete s).opL = s.opL := rfl
@[simp] theorem complete_modeL : (complete s).modeL = s.modeL := rfl
@[simp] theorem complete_lenL : (complete s).lenL = s.lenL := rfl
@[simp] theorem complete_pushed : (complete s).pushed = s.pushed := rfl
@[simp] theorem complete_inq : (complete s).inq = s.inq := rfl
@[simp] theorem complete_outq : (complete s).outq = s.outq := rfl
@[simp] theorem complete_acc : (complete s).acc = s.acc := rfl
@[simp] theorem complete_k : (complete s).k = s.k := rfl
@[simp] theorem complete_need : (complete s).need = s.need := rfl
@[simp] theorem complete_leadPos : (complete s).leadPos = s.leadPos := rfl
@[simp] theorem complete_rdData : (complete s).rdData = s.rdData := rfl
@[simp] theorem complete_pending : (complete s).pending = s.pending := rfl

@[simp] theorem clearOperation_irqEn : (clearOperation s).irqEn = s.irqEn := rfl
@[simp] theorem clearOperation_cmdOpcode : (clearOperation s).cmdOpcode = s.cmdOpcode := rfl
@[simp] theorem clearOperation_cmdMode : (clearOperation s).cmdMode = s.cmdMode := rfl
@[simp] theorem clearOperation_inLen : (clearOperation s).inLen = s.inLen := rfl
@[simp] theorem clearOperation_done : (clearOperation s).done = s.done := rfl
@[simp] theorem clearOperation_perr : (clearOperation s).perr = s.perr := rfl
@[simp] theorem clearOperation_tail1 : (clearOperation s).tail1 = false := rfl
@[simp] theorem clearOperation_ovf : (clearOperation s).ovf = false := rfl
@[simp] theorem clearOperation_lstop : (clearOperation s).lstop = false := rfl
@[simp] theorem clearOperation_errCode : (clearOperation s).errCode = s.errCode := rfl
@[simp] theorem clearOperation_errPos : (clearOperation s).errPos = 0 := rfl
@[simp] theorem clearOperation_inCount : (clearOperation s).inCount = 0 := rfl
@[simp] theorem clearOperation_outCount : (clearOperation s).outCount = 0 := rfl
@[simp] theorem clearOperation_phase : (clearOperation s).phase = s.phase := rfl
@[simp] theorem clearOperation_opL : (clearOperation s).opL = s.opL := rfl
@[simp] theorem clearOperation_modeL : (clearOperation s).modeL = s.modeL := rfl
@[simp] theorem clearOperation_lenL : (clearOperation s).lenL = s.lenL := rfl
@[simp] theorem clearOperation_pushed : (clearOperation s).pushed = 0 := rfl
@[simp] theorem clearOperation_inq : (clearOperation s).inq = [] := rfl
@[simp] theorem clearOperation_outq : (clearOperation s).outq = [] := rfl
@[simp] theorem clearOperation_acc : (clearOperation s).acc = 0 := rfl
@[simp] theorem clearOperation_k : (clearOperation s).k = 0 := rfl
@[simp] theorem clearOperation_need : (clearOperation s).need = 0 := rfl
@[simp] theorem clearOperation_leadPos : (clearOperation s).leadPos = 0 := rfl
@[simp] theorem clearOperation_rdData : (clearOperation s).rdData = s.rdData := rfl
@[simp] theorem clearOperation_pending : (clearOperation s).pending = s.pending := rfl

@[simp] theorem setCmd_irqEn (op : BitVec 4) (m : Bool) : (setCmd op m s).irqEn = s.irqEn := rfl
@[simp] theorem setCmd_cmdOpcode (op : BitVec 4) (m : Bool) : (setCmd op m s).cmdOpcode = op := rfl
@[simp] theorem setCmd_cmdMode (op : BitVec 4) (m : Bool) : (setCmd op m s).cmdMode = m := rfl
@[simp] theorem setCmd_inLen (op : BitVec 4) (m : Bool) : (setCmd op m s).inLen = s.inLen := rfl
@[simp] theorem setCmd_done (op : BitVec 4) (m : Bool) : (setCmd op m s).done = s.done := rfl
@[simp] theorem setCmd_perr (op : BitVec 4) (m : Bool) : (setCmd op m s).perr = s.perr := rfl
@[simp] theorem setCmd_tail1 (op : BitVec 4) (m : Bool) : (setCmd op m s).tail1 = s.tail1 := rfl
@[simp] theorem setCmd_ovf (op : BitVec 4) (m : Bool) : (setCmd op m s).ovf = s.ovf := rfl
@[simp] theorem setCmd_lstop (op : BitVec 4) (m : Bool) : (setCmd op m s).lstop = s.lstop := rfl
@[simp] theorem setCmd_errCode (op : BitVec 4) (m : Bool) : (setCmd op m s).errCode = s.errCode := rfl
@[simp] theorem setCmd_errPos (op : BitVec 4) (m : Bool) : (setCmd op m s).errPos = s.errPos := rfl
@[simp] theorem setCmd_inCount (op : BitVec 4) (m : Bool) : (setCmd op m s).inCount = s.inCount := rfl
@[simp] theorem setCmd_outCount (op : BitVec 4) (m : Bool) : (setCmd op m s).outCount = s.outCount := rfl
@[simp] theorem setCmd_phase (op : BitVec 4) (m : Bool) : (setCmd op m s).phase = s.phase := rfl
@[simp] theorem setCmd_opL (op : BitVec 4) (m : Bool) : (setCmd op m s).opL = s.opL := rfl
@[simp] theorem setCmd_modeL (op : BitVec 4) (m : Bool) : (setCmd op m s).modeL = s.modeL := rfl
@[simp] theorem setCmd_lenL (op : BitVec 4) (m : Bool) : (setCmd op m s).lenL = s.lenL := rfl
@[simp] theorem setCmd_pushed (op : BitVec 4) (m : Bool) : (setCmd op m s).pushed = s.pushed := rfl
@[simp] theorem setCmd_inq (op : BitVec 4) (m : Bool) : (setCmd op m s).inq = s.inq := rfl
@[simp] theorem setCmd_outq (op : BitVec 4) (m : Bool) : (setCmd op m s).outq = s.outq := rfl
@[simp] theorem setCmd_acc (op : BitVec 4) (m : Bool) : (setCmd op m s).acc = s.acc := rfl
@[simp] theorem setCmd_k (op : BitVec 4) (m : Bool) : (setCmd op m s).k = s.k := rfl
@[simp] theorem setCmd_need (op : BitVec 4) (m : Bool) : (setCmd op m s).need = s.need := rfl
@[simp] theorem setCmd_leadPos (op : BitVec 4) (m : Bool) : (setCmd op m s).leadPos = s.leadPos := rfl
@[simp] theorem setCmd_rdData (op : BitVec 4) (m : Bool) : (setCmd op m s).rdData = s.rdData := rfl
@[simp] theorem setCmd_pending (op : BitVec 4) (m : Bool) : (setCmd op m s).pending = s.pending := rfl

@[simp] theorem setLatches_irqEn (op : BitVec 4) (m : Bool) (n : Word) : (setLatches op m n s).irqEn = s.irqEn := rfl
@[simp] theorem setLatches_cmdOpcode (op : BitVec 4) (m : Bool) (n : Word) : (setLatches op m n s).cmdOpcode = s.cmdOpcode := rfl
@[simp] theorem setLatches_cmdMode (op : BitVec 4) (m : Bool) (n : Word) : (setLatches op m n s).cmdMode = s.cmdMode := rfl
@[simp] theorem setLatches_inLen (op : BitVec 4) (m : Bool) (n : Word) : (setLatches op m n s).inLen = s.inLen := rfl
@[simp] theorem setLatches_done (op : BitVec 4) (m : Bool) (n : Word) : (setLatches op m n s).done = s.done := rfl
@[simp] theorem setLatches_perr (op : BitVec 4) (m : Bool) (n : Word) : (setLatches op m n s).perr = s.perr := rfl
@[simp] theorem setLatches_tail1 (op : BitVec 4) (m : Bool) (n : Word) : (setLatches op m n s).tail1 = s.tail1 := rfl
@[simp] theorem setLatches_ovf (op : BitVec 4) (m : Bool) (n : Word) : (setLatches op m n s).ovf = s.ovf := rfl
@[simp] theorem setLatches_lstop (op : BitVec 4) (m : Bool) (n : Word) : (setLatches op m n s).lstop = s.lstop := rfl
@[simp] theorem setLatches_errCode (op : BitVec 4) (m : Bool) (n : Word) : (setLatches op m n s).errCode = s.errCode := rfl
@[simp] theorem setLatches_errPos (op : BitVec 4) (m : Bool) (n : Word) : (setLatches op m n s).errPos = s.errPos := rfl
@[simp] theorem setLatches_inCount (op : BitVec 4) (m : Bool) (n : Word) : (setLatches op m n s).inCount = s.inCount := rfl
@[simp] theorem setLatches_outCount (op : BitVec 4) (m : Bool) (n : Word) : (setLatches op m n s).outCount = s.outCount := rfl
@[simp] theorem setLatches_phase (op : BitVec 4) (m : Bool) (n : Word) : (setLatches op m n s).phase = s.phase := rfl
@[simp] theorem setLatches_opL (op : BitVec 4) (m : Bool) (n : Word) : (setLatches op m n s).opL = op := rfl
@[simp] theorem setLatches_modeL (op : BitVec 4) (m : Bool) (n : Word) : (setLatches op m n s).modeL = m := rfl
@[simp] theorem setLatches_lenL (op : BitVec 4) (m : Bool) (n : Word) : (setLatches op m n s).lenL = n := rfl
@[simp] theorem setLatches_pushed (op : BitVec 4) (m : Bool) (n : Word) : (setLatches op m n s).pushed = s.pushed := rfl
@[simp] theorem setLatches_inq (op : BitVec 4) (m : Bool) (n : Word) : (setLatches op m n s).inq = s.inq := rfl
@[simp] theorem setLatches_outq (op : BitVec 4) (m : Bool) (n : Word) : (setLatches op m n s).outq = s.outq := rfl
@[simp] theorem setLatches_acc (op : BitVec 4) (m : Bool) (n : Word) : (setLatches op m n s).acc = s.acc := rfl
@[simp] theorem setLatches_k (op : BitVec 4) (m : Bool) (n : Word) : (setLatches op m n s).k = s.k := rfl
@[simp] theorem setLatches_need (op : BitVec 4) (m : Bool) (n : Word) : (setLatches op m n s).need = s.need := rfl
@[simp] theorem setLatches_leadPos (op : BitVec 4) (m : Bool) (n : Word) : (setLatches op m n s).leadPos = s.leadPos := rfl
@[simp] theorem setLatches_rdData (op : BitVec 4) (m : Bool) (n : Word) : (setLatches op m n s).rdData = s.rdData := rfl
@[simp] theorem setLatches_pending (op : BitVec 4) (m : Bool) (n : Word) : (setLatches op m n s).pending = s.pending := rfl

@[simp] theorem setVerdict_irqEn (p : Phase) (b : Bool) (c : ErrCode) : (setVerdict p b c s).irqEn = s.irqEn := rfl
@[simp] theorem setVerdict_cmdOpcode (p : Phase) (b : Bool) (c : ErrCode) : (setVerdict p b c s).cmdOpcode = s.cmdOpcode := rfl
@[simp] theorem setVerdict_cmdMode (p : Phase) (b : Bool) (c : ErrCode) : (setVerdict p b c s).cmdMode = s.cmdMode := rfl
@[simp] theorem setVerdict_inLen (p : Phase) (b : Bool) (c : ErrCode) : (setVerdict p b c s).inLen = s.inLen := rfl
@[simp] theorem setVerdict_done (p : Phase) (b : Bool) (c : ErrCode) : (setVerdict p b c s).done = b := rfl
@[simp] theorem setVerdict_perr (p : Phase) (b : Bool) (c : ErrCode) : (setVerdict p b c s).perr = s.perr := rfl
@[simp] theorem setVerdict_tail1 (p : Phase) (b : Bool) (c : ErrCode) : (setVerdict p b c s).tail1 = s.tail1 := rfl
@[simp] theorem setVerdict_ovf (p : Phase) (b : Bool) (c : ErrCode) : (setVerdict p b c s).ovf = s.ovf := rfl
@[simp] theorem setVerdict_lstop (p : Phase) (b : Bool) (c : ErrCode) : (setVerdict p b c s).lstop = s.lstop := rfl
@[simp] theorem setVerdict_errCode (p : Phase) (b : Bool) (c : ErrCode) : (setVerdict p b c s).errCode = c := rfl
@[simp] theorem setVerdict_errPos (p : Phase) (b : Bool) (c : ErrCode) : (setVerdict p b c s).errPos = s.errPos := rfl
@[simp] theorem setVerdict_inCount (p : Phase) (b : Bool) (c : ErrCode) : (setVerdict p b c s).inCount = s.inCount := rfl
@[simp] theorem setVerdict_outCount (p : Phase) (b : Bool) (c : ErrCode) : (setVerdict p b c s).outCount = s.outCount := rfl
@[simp] theorem setVerdict_phase (p : Phase) (b : Bool) (c : ErrCode) : (setVerdict p b c s).phase = p := rfl
@[simp] theorem setVerdict_opL (p : Phase) (b : Bool) (c : ErrCode) : (setVerdict p b c s).opL = s.opL := rfl
@[simp] theorem setVerdict_modeL (p : Phase) (b : Bool) (c : ErrCode) : (setVerdict p b c s).modeL = s.modeL := rfl
@[simp] theorem setVerdict_lenL (p : Phase) (b : Bool) (c : ErrCode) : (setVerdict p b c s).lenL = s.lenL := rfl
@[simp] theorem setVerdict_pushed (p : Phase) (b : Bool) (c : ErrCode) : (setVerdict p b c s).pushed = s.pushed := rfl
@[simp] theorem setVerdict_inq (p : Phase) (b : Bool) (c : ErrCode) : (setVerdict p b c s).inq = s.inq := rfl
@[simp] theorem setVerdict_outq (p : Phase) (b : Bool) (c : ErrCode) : (setVerdict p b c s).outq = s.outq := rfl
@[simp] theorem setVerdict_acc (p : Phase) (b : Bool) (c : ErrCode) : (setVerdict p b c s).acc = s.acc := rfl
@[simp] theorem setVerdict_k (p : Phase) (b : Bool) (c : ErrCode) : (setVerdict p b c s).k = s.k := rfl
@[simp] theorem setVerdict_need (p : Phase) (b : Bool) (c : ErrCode) : (setVerdict p b c s).need = s.need := rfl
@[simp] theorem setVerdict_leadPos (p : Phase) (b : Bool) (c : ErrCode) : (setVerdict p b c s).leadPos = s.leadPos := rfl
@[simp] theorem setVerdict_rdData (p : Phase) (b : Bool) (c : ErrCode) : (setVerdict p b c s).rdData = s.rdData := rfl
@[simp] theorem setVerdict_pending (p : Phase) (b : Bool) (c : ErrCode) : (setVerdict p b c s).pending = s.pending := rfl

@[simp] theorem start_irqEn (op : BitVec 4) (m : Bool) : (start op m s).irqEn = s.irqEn := rfl
@[simp] theorem start_cmdOpcode (op : BitVec 4) (m : Bool) : (start op m s).cmdOpcode = op := rfl
@[simp] theorem start_cmdMode (op : BitVec 4) (m : Bool) : (start op m s).cmdMode = m := rfl
@[simp] theorem start_inLen (op : BitVec 4) (m : Bool) : (start op m s).inLen = s.inLen := rfl
@[simp] theorem start_done (op : BitVec 4) (m : Bool) : (start op m s).done = false := rfl
@[simp] theorem start_perr (op : BitVec 4) (m : Bool) : (start op m s).perr = s.perr := rfl
@[simp] theorem start_tail1 (op : BitVec 4) (m : Bool) : (start op m s).tail1 = false := rfl
@[simp] theorem start_ovf (op : BitVec 4) (m : Bool) : (start op m s).ovf = false := rfl
@[simp] theorem start_lstop (op : BitVec 4) (m : Bool) : (start op m s).lstop = false := rfl
@[simp] theorem start_errCode (op : BitVec 4) (m : Bool) : (start op m s).errCode = .none := rfl
@[simp] theorem start_errPos (op : BitVec 4) (m : Bool) : (start op m s).errPos = 0 := rfl
@[simp] theorem start_inCount (op : BitVec 4) (m : Bool) : (start op m s).inCount = 0 := rfl
@[simp] theorem start_outCount (op : BitVec 4) (m : Bool) : (start op m s).outCount = 0 := rfl
@[simp] theorem start_phase (op : BitVec 4) (m : Bool) : (start op m s).phase = .run := rfl
@[simp] theorem start_opL (op : BitVec 4) (m : Bool) : (start op m s).opL = op := rfl
@[simp] theorem start_modeL (op : BitVec 4) (m : Bool) : (start op m s).modeL = m := rfl
@[simp] theorem start_lenL (op : BitVec 4) (m : Bool) : (start op m s).lenL = s.inLen := rfl
@[simp] theorem start_pushed (op : BitVec 4) (m : Bool) : (start op m s).pushed = 0 := rfl
@[simp] theorem start_inq (op : BitVec 4) (m : Bool) : (start op m s).inq = [] := rfl
@[simp] theorem start_outq (op : BitVec 4) (m : Bool) : (start op m s).outq = [] := rfl
@[simp] theorem start_acc (op : BitVec 4) (m : Bool) : (start op m s).acc = 0 := rfl
@[simp] theorem start_k (op : BitVec 4) (m : Bool) : (start op m s).k = 0 := rfl
@[simp] theorem start_need (op : BitVec 4) (m : Bool) : (start op m s).need = 0 := rfl
@[simp] theorem start_leadPos (op : BitVec 4) (m : Bool) : (start op m s).leadPos = 0 := rfl
@[simp] theorem start_rdData (op : BitVec 4) (m : Bool) : (start op m s).rdData = s.rdData := rfl
@[simp] theorem start_pending (op : BitVec 4) (m : Bool) : (start op m s).pending = s.pending := rfl

@[simp] theorem abortOperation_irqEn (m : Bool) : (abortOperation m s).irqEn = s.irqEn := rfl
@[simp] theorem abortOperation_cmdOpcode (m : Bool) : (abortOperation m s).cmdOpcode = 0xF := rfl
@[simp] theorem abortOperation_cmdMode (m : Bool) : (abortOperation m s).cmdMode = m := rfl
@[simp] theorem abortOperation_inLen (m : Bool) : (abortOperation m s).inLen = s.inLen := rfl
@[simp] theorem abortOperation_done (m : Bool) : (abortOperation m s).done = false := rfl
@[simp] theorem abortOperation_perr (m : Bool) : (abortOperation m s).perr = s.perr := rfl
@[simp] theorem abortOperation_tail1 (m : Bool) : (abortOperation m s).tail1 = false := rfl
@[simp] theorem abortOperation_ovf (m : Bool) : (abortOperation m s).ovf = false := rfl
@[simp] theorem abortOperation_lstop (m : Bool) : (abortOperation m s).lstop = false := rfl
@[simp] theorem abortOperation_errCode (m : Bool) : (abortOperation m s).errCode = .none := rfl
@[simp] theorem abortOperation_errPos (m : Bool) : (abortOperation m s).errPos = 0 := rfl
@[simp] theorem abortOperation_inCount (m : Bool) : (abortOperation m s).inCount = 0 := rfl
@[simp] theorem abortOperation_outCount (m : Bool) : (abortOperation m s).outCount = 0 := rfl
@[simp] theorem abortOperation_phase (m : Bool) : (abortOperation m s).phase = .idle := rfl
@[simp] theorem abortOperation_opL (m : Bool) : (abortOperation m s).opL = 0 := rfl
@[simp] theorem abortOperation_modeL (m : Bool) : (abortOperation m s).modeL = false := rfl
@[simp] theorem abortOperation_lenL (m : Bool) : (abortOperation m s).lenL = 0 := rfl
@[simp] theorem abortOperation_pushed (m : Bool) : (abortOperation m s).pushed = 0 := rfl
@[simp] theorem abortOperation_inq (m : Bool) : (abortOperation m s).inq = [] := rfl
@[simp] theorem abortOperation_outq (m : Bool) : (abortOperation m s).outq = [] := rfl
@[simp] theorem abortOperation_acc (m : Bool) : (abortOperation m s).acc = 0 := rfl
@[simp] theorem abortOperation_k (m : Bool) : (abortOperation m s).k = 0 := rfl
@[simp] theorem abortOperation_need (m : Bool) : (abortOperation m s).need = 0 := rfl
@[simp] theorem abortOperation_leadPos (m : Bool) : (abortOperation m s).leadPos = 0 := rfl
@[simp] theorem abortOperation_rdData (m : Bool) : (abortOperation m s).rdData = s.rdData := rfl
@[simp] theorem abortOperation_pending (m : Bool) : (abortOperation m s).pending = s.pending := rfl

@[simp] theorem illegalCommand_irqEn (op : BitVec 4) (m : Bool) : (illegalCommand op m s).irqEn = s.irqEn := rfl
@[simp] theorem illegalCommand_cmdOpcode (op : BitVec 4) (m : Bool) : (illegalCommand op m s).cmdOpcode = op := rfl
@[simp] theorem illegalCommand_cmdMode (op : BitVec 4) (m : Bool) : (illegalCommand op m s).cmdMode = m := rfl
@[simp] theorem illegalCommand_inLen (op : BitVec 4) (m : Bool) : (illegalCommand op m s).inLen = s.inLen := rfl
@[simp] theorem illegalCommand_done (op : BitVec 4) (m : Bool) : (illegalCommand op m s).done = true := rfl
@[simp] theorem illegalCommand_perr (op : BitVec 4) (m : Bool) : (illegalCommand op m s).perr = s.perr := rfl
@[simp] theorem illegalCommand_tail1 (op : BitVec 4) (m : Bool) : (illegalCommand op m s).tail1 = false := rfl
@[simp] theorem illegalCommand_ovf (op : BitVec 4) (m : Bool) : (illegalCommand op m s).ovf = false := rfl
@[simp] theorem illegalCommand_lstop (op : BitVec 4) (m : Bool) : (illegalCommand op m s).lstop = false := rfl
@[simp] theorem illegalCommand_errCode (op : BitVec 4) (m : Bool) : (illegalCommand op m s).errCode = .illegalCmd := rfl
@[simp] theorem illegalCommand_errPos (op : BitVec 4) (m : Bool) : (illegalCommand op m s).errPos = 0 := rfl
@[simp] theorem illegalCommand_inCount (op : BitVec 4) (m : Bool) : (illegalCommand op m s).inCount = 0 := rfl
@[simp] theorem illegalCommand_outCount (op : BitVec 4) (m : Bool) : (illegalCommand op m s).outCount = 0 := rfl
@[simp] theorem illegalCommand_phase (op : BitVec 4) (m : Bool) : (illegalCommand op m s).phase = .idle := rfl
@[simp] theorem illegalCommand_opL (op : BitVec 4) (m : Bool) : (illegalCommand op m s).opL = op := rfl
@[simp] theorem illegalCommand_modeL (op : BitVec 4) (m : Bool) : (illegalCommand op m s).modeL = m := rfl
@[simp] theorem illegalCommand_lenL (op : BitVec 4) (m : Bool) : (illegalCommand op m s).lenL = 0 := rfl
@[simp] theorem illegalCommand_pushed (op : BitVec 4) (m : Bool) : (illegalCommand op m s).pushed = 0 := rfl
@[simp] theorem illegalCommand_inq (op : BitVec 4) (m : Bool) : (illegalCommand op m s).inq = [] := rfl
@[simp] theorem illegalCommand_outq (op : BitVec 4) (m : Bool) : (illegalCommand op m s).outq = [] := rfl
@[simp] theorem illegalCommand_acc (op : BitVec 4) (m : Bool) : (illegalCommand op m s).acc = 0 := rfl
@[simp] theorem illegalCommand_k (op : BitVec 4) (m : Bool) : (illegalCommand op m s).k = 0 := rfl
@[simp] theorem illegalCommand_need (op : BitVec 4) (m : Bool) : (illegalCommand op m s).need = 0 := rfl
@[simp] theorem illegalCommand_leadPos (op : BitVec 4) (m : Bool) : (illegalCommand op m s).leadPos = 0 := rfl
@[simp] theorem illegalCommand_rdData (op : BitVec 4) (m : Bool) : (illegalCommand op m s).rdData = s.rdData := rfl
@[simp] theorem illegalCommand_pending (op : BitVec 4) (m : Bool) : (illegalCommand op m s).pending = s.pending := rfl

@[simp] theorem busyCommand_irqEn : (busyCommand s).irqEn = s.irqEn := rfl
@[simp] theorem busyCommand_cmdOpcode : (busyCommand s).cmdOpcode = s.cmdOpcode := rfl
@[simp] theorem busyCommand_cmdMode : (busyCommand s).cmdMode = s.cmdMode := rfl
@[simp] theorem busyCommand_inLen : (busyCommand s).inLen = s.inLen := rfl
@[simp] theorem busyCommand_done : (busyCommand s).done = s.done := rfl
@[simp] theorem busyCommand_perr : (busyCommand s).perr = true := rfl
@[simp] theorem busyCommand_tail1 : (busyCommand s).tail1 = s.tail1 := rfl
@[simp] theorem busyCommand_ovf : (busyCommand s).ovf = s.ovf := rfl
@[simp] theorem busyCommand_lstop : (busyCommand s).lstop = s.lstop := rfl
@[simp] theorem busyCommand_errCode : (busyCommand s).errCode = s.errCode := rfl
@[simp] theorem busyCommand_errPos : (busyCommand s).errPos = s.errPos := rfl
@[simp] theorem busyCommand_inCount : (busyCommand s).inCount = s.inCount := rfl
@[simp] theorem busyCommand_outCount : (busyCommand s).outCount = s.outCount := rfl
@[simp] theorem busyCommand_phase : (busyCommand s).phase = s.phase := rfl
@[simp] theorem busyCommand_opL : (busyCommand s).opL = s.opL := rfl
@[simp] theorem busyCommand_modeL : (busyCommand s).modeL = s.modeL := rfl
@[simp] theorem busyCommand_lenL : (busyCommand s).lenL = s.lenL := rfl
@[simp] theorem busyCommand_pushed : (busyCommand s).pushed = s.pushed := rfl
@[simp] theorem busyCommand_inq : (busyCommand s).inq = s.inq := rfl
@[simp] theorem busyCommand_outq : (busyCommand s).outq = s.outq := rfl
@[simp] theorem busyCommand_acc : (busyCommand s).acc = s.acc := rfl
@[simp] theorem busyCommand_k : (busyCommand s).k = s.k := rfl
@[simp] theorem busyCommand_need : (busyCommand s).need = s.need := rfl
@[simp] theorem busyCommand_leadPos : (busyCommand s).leadPos = s.leadPos := rfl
@[simp] theorem busyCommand_rdData : (busyCommand s).rdData = s.rdData := rfl
@[simp] theorem busyCommand_pending : (busyCommand s).pending = s.pending := rfl

end Sys2Proof.Machine
end

