-- ==== Sys2Proof/Laws/Ops.lean ====
section
/-! SUPPORT. What the shared operations that are more than one record update do, said once: `emitAll`, `raiseEngineError`,
`issueCodec`, `issueIllegal`, `hasRoom`, and the ranges of the parameters. -/

namespace Sys2Proof.Machine

/-- `IN_DEPTH` lies in the range R6 gives it. -/
theorem inDepth_range : 1 ≤ Config.inDepth ∧ Config.inDepth ≤ 65535 := by
  unfold Config.inDepth; omega

/-- `OUT_DEPTH` lies in the range R6 gives it. -/
theorem outDepth_range : 4 ≤ Config.outDepth ∧ Config.outDepth ≤ 65535 := by
  unfold Config.outDepth; omega

/-- `BASE` is aligned to 64 bytes (R6). -/
theorem base_aligned : Config.base % 64 = 0 := by
  unfold Config.base; omega

variable (s : State)

theorem hasRoom_iff (n : Nat) : hasRoom n s = true ↔ n ≤ Config.outDepth - s.outq.length :=
  decide_eq_true_iff

@[simp] theorem hasRoom_zero : hasRoom 0 s = true := (hasRoom_iff s 0).mpr (Nat.zero_le _)

/-- Room for at least one element, without subtraction. -/
theorem hasRoom_of_le {n : Nat} (h : s.outq.length + n ≤ Config.outDepth) : hasRoom n s = true := by
  rw [hasRoom_iff]; omega

/-- Four elements always fit an empty OUTQ, the largest emission there is (R6, R124). -/
theorem hasRoom_of_empty {n : Nat} (h : s.outq = []) (hn : n ≤ 4) : hasRoom n s = true := by
  have := outDepth_range
  rw [hasRoom_iff, h]; simp only [List.length_nil]; omega

@[simp] theorem emitAll_nil : emitAll [] s = s := rfl

theorem emitAll_cons (v : Word) (vs : List Word) : emitAll (v :: vs) s = emitAll vs (emit v s) := rfl

/-- `emitAll` appends to OUTQ and adds to OUT_COUNT modulo 2^32, and does nothing else (R9, R33). -/
theorem emitAll_eq (vs : List Word) :
    emitAll vs s = { s with outq := s.outq ++ vs, outCount := s.outCount + BitVec.ofNat 32 vs.length } := by
  induction vs generalizing s with
  | nil => simp
  | cons v vs ih =>
    rw [emitAll_cons, ih]
    have h : s.outCount + 1#32 + BitVec.ofNat 32 vs.length = s.outCount + BitVec.ofNat 32 (vs.length + 1) := by
      rw [BitVec.ofNat_add, BitVec.add_assoc, BitVec.add_comm 1#32]
    simp [emit, h]

/-- An engine error records the first code and position and enters DRAIN, and does nothing else (R188). -/
theorem raiseEngineError_eq (c : ErrCode) (p : Word) :
    raiseEngineError c p s =
      { s with
        errCode := if s.errCode = .none then c else s.errCode
        errPos := if s.errCode = .none then p else s.errPos
        phase := .drain } := by
  unfold raiseEngineError; split <;> rfl

/-- A codec command starts an idle block and is a protocol error on a busy one (R89). -/
theorem issueCodec_eq (op : BitVec 4) (m : Bool) :
    (s.phase = .idle ∧ issueCodec op m s = start op m s) ∨
      (s.phase ≠ .idle ∧ issueCodec op m s = { s with perr := true }) := by
  unfold issueCodec; split
  · exact .inl ⟨‹_›, rfl⟩
  · exact .inr ⟨‹_›, rfl⟩

/-- An illegal command leaves its verdict on an idle block and is a protocol error on a busy one (R89). -/
theorem issueIllegal_eq (op : BitVec 4) (m : Bool) :
    (s.phase = .idle ∧ issueIllegal op m s = illegalCommand op m s) ∨
      (s.phase ≠ .idle ∧ issueIllegal op m s = { s with perr := true }) := by
  unfold issueIllegal; split
  · exact .inl ⟨‹_›, rfl⟩
  · exact .inr ⟨‹_›, rfl⟩

@[simp] theorem emitAll_irqEn (vs : List Word) : (emitAll vs s).irqEn = s.irqEn := by rw [emitAll_eq]
@[simp] theorem emitAll_cmdOpcode (vs : List Word) : (emitAll vs s).cmdOpcode = s.cmdOpcode := by rw [emitAll_eq]
@[simp] theorem emitAll_cmdMode (vs : List Word) : (emitAll vs s).cmdMode = s.cmdMode := by rw [emitAll_eq]
@[simp] theorem emitAll_inLen (vs : List Word) : (emitAll vs s).inLen = s.inLen := by rw [emitAll_eq]
@[simp] theorem emitAll_done (vs : List Word) : (emitAll vs s).done = s.done := by rw [emitAll_eq]
@[simp] theorem emitAll_perr (vs : List Word) : (emitAll vs s).perr = s.perr := by rw [emitAll_eq]
@[simp] theorem emitAll_tail1 (vs : List Word) : (emitAll vs s).tail1 = s.tail1 := by rw [emitAll_eq]
@[simp] theorem emitAll_ovf (vs : List Word) : (emitAll vs s).ovf = s.ovf := by rw [emitAll_eq]
@[simp] theorem emitAll_lstop (vs : List Word) : (emitAll vs s).lstop = s.lstop := by rw [emitAll_eq]
@[simp] theorem emitAll_errCode (vs : List Word) : (emitAll vs s).errCode = s.errCode := by rw [emitAll_eq]
@[simp] theorem emitAll_errPos (vs : List Word) : (emitAll vs s).errPos = s.errPos := by rw [emitAll_eq]
@[simp] theorem emitAll_inCount (vs : List Word) : (emitAll vs s).inCount = s.inCount := by rw [emitAll_eq]
@[simp] theorem emitAll_outCount (vs : List Word) : (emitAll vs s).outCount = s.outCount + BitVec.ofNat 32 vs.length := by rw [emitAll_eq]
@[simp] theorem emitAll_phase (vs : List Word) : (emitAll vs s).phase = s.phase := by rw [emitAll_eq]
@[simp] theorem emitAll_opL (vs : List Word) : (emitAll vs s).opL = s.opL := by rw [emitAll_eq]
@[simp] theorem emitAll_modeL (vs : List Word) : (emitAll vs s).modeL = s.modeL := by rw [emitAll_eq]
@[simp] theorem emitAll_lenL (vs : List Word) : (emitAll vs s).lenL = s.lenL := by rw [emitAll_eq]
@[simp] theorem emitAll_pushed (vs : List Word) : (emitAll vs s).pushed = s.pushed := by rw [emitAll_eq]
@[simp] theorem emitAll_inq (vs : List Word) : (emitAll vs s).inq = s.inq := by rw [emitAll_eq]
@[simp] theorem emitAll_outq (vs : List Word) : (emitAll vs s).outq = s.outq ++ vs := by rw [emitAll_eq]
@[simp] theorem emitAll_acc (vs : List Word) : (emitAll vs s).acc = s.acc := by rw [emitAll_eq]
@[simp] theorem emitAll_k (vs : List Word) : (emitAll vs s).k = s.k := by rw [emitAll_eq]
@[simp] theorem emitAll_need (vs : List Word) : (emitAll vs s).need = s.need := by rw [emitAll_eq]
@[simp] theorem emitAll_leadPos (vs : List Word) : (emitAll vs s).leadPos = s.leadPos := by rw [emitAll_eq]
@[simp] theorem emitAll_rdData (vs : List Word) : (emitAll vs s).rdData = s.rdData := by rw [emitAll_eq]
@[simp] theorem emitAll_pending (vs : List Word) : (emitAll vs s).pending = s.pending := by rw [emitAll_eq]

@[simp] theorem raiseEngineError_irqEn (c : ErrCode) (p : Word) : (raiseEngineError c p s).irqEn = s.irqEn := by
  rw [raiseEngineError_eq]
@[simp] theorem raiseEngineError_cmdOpcode (c : ErrCode) (p : Word) : (raiseEngineError c p s).cmdOpcode = s.cmdOpcode := by
  rw [raiseEngineError_eq]
@[simp] theorem raiseEngineError_cmdMode (c : ErrCode) (p : Word) : (raiseEngineError c p s).cmdMode = s.cmdMode := by
  rw [raiseEngineError_eq]
@[simp] theorem raiseEngineError_inLen (c : ErrCode) (p : Word) : (raiseEngineError c p s).inLen = s.inLen := by
  rw [raiseEngineError_eq]
@[simp] theorem raiseEngineError_done (c : ErrCode) (p : Word) : (raiseEngineError c p s).done = s.done := by
  rw [raiseEngineError_eq]
@[simp] theorem raiseEngineError_perr (c : ErrCode) (p : Word) : (raiseEngineError c p s).perr = s.perr := by
  rw [raiseEngineError_eq]
@[simp] theorem raiseEngineError_tail1 (c : ErrCode) (p : Word) : (raiseEngineError c p s).tail1 = s.tail1 := by
  rw [raiseEngineError_eq]
@[simp] theorem raiseEngineError_ovf (c : ErrCode) (p : Word) : (raiseEngineError c p s).ovf = s.ovf := by
  rw [raiseEngineError_eq]
@[simp] theorem raiseEngineError_lstop (c : ErrCode) (p : Word) : (raiseEngineError c p s).lstop = s.lstop := by
  rw [raiseEngineError_eq]
@[simp] theorem raiseEngineError_errCode (c : ErrCode) (p : Word) : (raiseEngineError c p s).errCode = if s.errCode = .none then c else s.errCode := by
  rw [raiseEngineError_eq]
@[simp] theorem raiseEngineError_errPos (c : ErrCode) (p : Word) : (raiseEngineError c p s).errPos = if s.errCode = .none then p else s.errPos := by
  rw [raiseEngineError_eq]
@[simp] theorem raiseEngineError_inCount (c : ErrCode) (p : Word) : (raiseEngineError c p s).inCount = s.inCount := by
  rw [raiseEngineError_eq]
@[simp] theorem raiseEngineError_outCount (c : ErrCode) (p : Word) : (raiseEngineError c p s).outCount = s.outCount := by
  rw [raiseEngineError_eq]
@[simp] theorem raiseEngineError_phase (c : ErrCode) (p : Word) : (raiseEngineError c p s).phase = .drain := by
  rw [raiseEngineError_eq]
@[simp] theorem raiseEngineError_opL (c : ErrCode) (p : Word) : (raiseEngineError c p s).opL = s.opL := by
  rw [raiseEngineError_eq]
@[simp] theorem raiseEngineError_modeL (c : ErrCode) (p : Word) : (raiseEngineError c p s).modeL = s.modeL := by
  rw [raiseEngineError_eq]
@[simp] theorem raiseEngineError_lenL (c : ErrCode) (p : Word) : (raiseEngineError c p s).lenL = s.lenL := by
  rw [raiseEngineError_eq]
@[simp] theorem raiseEngineError_pushed (c : ErrCode) (p : Word) : (raiseEngineError c p s).pushed = s.pushed := by
  rw [raiseEngineError_eq]
@[simp] theorem raiseEngineError_inq (c : ErrCode) (p : Word) : (raiseEngineError c p s).inq = s.inq := by
  rw [raiseEngineError_eq]
@[simp] theorem raiseEngineError_outq (c : ErrCode) (p : Word) : (raiseEngineError c p s).outq = s.outq := by
  rw [raiseEngineError_eq]
@[simp] theorem raiseEngineError_acc (c : ErrCode) (p : Word) : (raiseEngineError c p s).acc = s.acc := by
  rw [raiseEngineError_eq]
@[simp] theorem raiseEngineError_k (c : ErrCode) (p : Word) : (raiseEngineError c p s).k = s.k := by
  rw [raiseEngineError_eq]
@[simp] theorem raiseEngineError_need (c : ErrCode) (p : Word) : (raiseEngineError c p s).need = s.need := by
  rw [raiseEngineError_eq]
@[simp] theorem raiseEngineError_leadPos (c : ErrCode) (p : Word) : (raiseEngineError c p s).leadPos = s.leadPos := by
  rw [raiseEngineError_eq]
@[simp] theorem raiseEngineError_rdData (c : ErrCode) (p : Word) : (raiseEngineError c p s).rdData = s.rdData := by
  rw [raiseEngineError_eq]
@[simp] theorem raiseEngineError_pending (c : ErrCode) (p : Word) : (raiseEngineError c p s).pending = s.pending := by
  rw [raiseEngineError_eq]

end Sys2Proof.Machine
end

