-- ==== Sys2Proof/Laws/Engine.lean ====
section
/-! SUPPORT. What an engine turn and a step can do, said once; a proof over steps starts from these cases. -/

namespace Sys2Proof.Machine

variable {s t : State}

/-- A consume step is enabled on the head `e` of INQ (R122). -/
def ConsumeEnabled (s : State) (e : Word) : Prop :=
  s.phase ≠ .idle ∧ s.inCount < s.lenL ∧ s.inq.head? = some e ∧
    ∃ n, consumeCount e s = some n ∧ hasRoom n s = true

/-- The final step is enabled (R123). -/
def FinalEnabled (s : State) : Prop :=
  s.phase ≠ .idle ∧ s.inCount = s.lenL ∧ ∃ n, finalCount s = some n ∧ hasRoom n s = true

theorem engineResult_next {r : Option State} : engineResult r = .next t ↔ r = some t := by
  cases r <;> simp [engineResult]

/-- An engine turn that answers next passes without effect, or is the enabled consume step, or the enabled final step
(R121, R122, R123). -/
theorem engineTurn_cases (h : engineTurn s = .next t) :
    t = s ∨ (∃ e, ConsumeEnabled s e ∧ consumeEffect e s.inCount (popInput s) = some t) ∨
      (FinalEnabled s ∧ finalEffect s = some t) := by
  unfold engineTurn at h
  split at h
  · exact .inl (Host.Outcome.next.inj h).symm
  case isFalse hph =>
    split at h
    case isTrue hlt =>
      split at h
      · exact .inl (Host.Outcome.next.inj h).symm
      case h_2 e rest hq =>
        unfold consumeTurn at h
        split at h
        · cases h
        case h_2 n hn =>
          split at h
          case isTrue hr =>
            exact .inr (.inl ⟨e, ⟨hph, hlt, by simp [hq], n, hn, hr⟩, engineResult_next.mp h⟩)
          · exact .inl (Host.Outcome.next.inj h).symm
    · split at h
      case isTrue heq =>
        unfold finalTurn at h
        split at h
        · cases h
        case h_2 n hn =>
          split at h
          case isTrue hr => exact .inr (.inr ⟨⟨hph, heq, n, hn, hr⟩, engineResult_next.mp h⟩)
          · exact .inl (Host.Outcome.next.inj h).symm
      · exact .inl (Host.Outcome.next.inj h).symm

/-- The enabled consume step is the turn the engine takes (R122). -/
theorem engineTurn_consume {e : Word} (h : ConsumeEnabled s e) :
    engineTurn s = engineResult (consumeEffect e s.inCount (popInput s)) := by
  obtain ⟨hph, hlt, hq, n, hn, hr⟩ := h
  obtain ⟨rest, hq⟩ : ∃ rest, s.inq = e :: rest := by
    cases hs : s.inq with
    | nil => simp [hs] at hq
    | cons a l => exact ⟨l, by simpa [hs] using hq⟩
  simp [engineTurn, hph, hlt, hq, consumeTurn, hn, hr]

/-- The enabled final step is the turn the engine takes (R123). -/
theorem engineTurn_final (h : FinalEnabled s) : engineTurn s = engineResult (finalEffect s) := by
  obtain ⟨hph, heq, n, hn, hr⟩ := h
  have hlt : ¬ s.inCount < s.lenL := by rw [heq]; exact BitVec.lt_irrefl _
  simp [engineTurn, hph, heq, finalTurn, hn, hr]

/-- At most one of the two engine steps is enabled (R121). -/
theorem not_consume_and_final {e : Word} : ¬ (ConsumeEnabled s e ∧ FinalEnabled s) := by
  rintro ⟨⟨-, hlt, -⟩, -, heq, -⟩
  rw [heq] at hlt
  exact BitVec.lt_irrefl _ hlt

/-- A step that answers next is the engine's turn, a host transaction, or the reset (R10). -/
theorem step_cases (h : step s = .next t) :
    (s.pending = [] ∧ engineTurn s = .next t) ∨
      ∃ rest, (s.pending = .engine :: rest ∧ engineTurn { s with pending := rest } = .next t) ∨
        (∃ w, s.pending = .host w :: rest ∧ exec (decode w) { s with pending := rest } = .next t) ∨
        (s.pending = .reset :: rest ∧ t = { State.reset with pending := rest }) := by
  unfold step at h
  split at h
  case h_1 hp => exact .inl ⟨hp, h⟩
  case h_2 w rest hp => exact .inr ⟨rest, .inr (.inl ⟨w, hp, h⟩)⟩
  case h_3 rest hp => exact .inr ⟨rest, .inl ⟨hp, h⟩⟩
  case h_4 rest hp => exact .inr ⟨rest, .inr (.inr ⟨hp, (Host.Outcome.next.inj h).symm⟩)⟩

end Sys2Proof.Machine
end

