-- ==== Sys2Proof/Laws/Invariant.lean ====
section
/-! SUPPORT. The invariant of the block speaks of the block alone: not of the schedule, nor of the word last read. -/

namespace Sys2Proof.Machine

/-- Which steps are still to come does not matter to the invariant. -/
theorem inv_withPending {s : State} (p : List Event) (h : Inv s) : Inv { s with pending := p } :=
  { queues := ⟨h.queues.1, h.queues.2, h.queues.3, h.queues.4, h.queues.5⟩
    control := ⟨h.control.1, h.control.2, h.control.3, h.control.4, h.control.5⟩
    record := ⟨h.record.1, h.record.2, h.record.3, h.record.4, h.record.5, h.record.6, h.record.7, h.record.8⟩
    datapath := ⟨h.datapath.1, h.datapath.2, h.datapath.3, h.datapath.4, h.datapath.5, h.datapath.6, h.datapath.7⟩
    output := ⟨h.output.1, h.output.2⟩ }

/-- The value the last read returned does not matter to the invariant. -/
theorem inv_respond {s : State} (v : Word) (h : Inv s) : Inv (respond v s) :=
  { queues := ⟨h.queues.1, h.queues.2, h.queues.3, h.queues.4, h.queues.5⟩
    control := ⟨h.control.1, h.control.2, h.control.3, h.control.4, h.control.5⟩
    record := ⟨h.record.1, h.record.2, h.record.3, h.record.4, h.record.5, h.record.6, h.record.7, h.record.8⟩
    datapath := ⟨h.datapath.1, h.datapath.2, h.datapath.3, h.datapath.4, h.datapath.5, h.datapath.6, h.datapath.7⟩
    output := ⟨h.output.1, h.output.2⟩ }

end Sys2Proof.Machine
end

