-- ==== Sys2Proof/Laws/PerInstr.lean ====
section
/-! SUPPORT. Statements for all instructions, one lemma per constructor. Family TableRow: the word of a well-formed
instruction lies in the row of spec/opcode_table.json that bears its name (R80). -/

namespace Sys2Proof.Laws.TableRow

/-- The encoding of a well-formed instruction fits the table row of its mnemonic. -/
def Statement (i : Instr) : Prop :=
  wellFormed i = true → ∃ r ∈ opcodeTable, r.mnemonic = mnemonic i ∧ r.fits (encode i) = true

/-- Every offset of a register fits the register's read row. -/
theorem read_fits (r : Reg) (row : TableRow)
    (h : ∀ a : BitVec 6, addresses r a = true → row.fits (readWord a) = true) (hrow : row ∈ opcodeTable)
    (i : Instr) (hn : row.mnemonic = mnemonic i) (a : BitVec 6) (he : encode i = readWord a)
    (hw : wellFormed i = addresses r a) : Statement i := by
  intro hwf
  exact ⟨row, hrow, hn, by rw [he]; exact h a (hw ▸ hwf)⟩

/-- Every offset of a register fits the register's write row, whatever the data. -/
theorem write_fits (r : Reg) (row : TableRow)
    (h : ∀ a : BitVec 6, addresses r a = true → row.fits (writeWord a 0) = true) (hrow : row ∈ opcodeTable)
    (i : Instr) (hn : row.mnemonic = mnemonic i) (a : BitVec 6) (d : Word) (he : encode i = writeWord a d)
    (hw : wellFormed i = addresses r a) : Statement i := by
  intro hwf
  exact ⟨row, hrow, hn, by rw [he]; exact h a (hw ▸ hwf)⟩

/-- A command word with a row's opcode fits the row (mask 0x0F). -/
theorem opcode_fits (op : BitVec 4) (row : TableRow) (hf : row.format = .command) (hm : row.mask = 0x0F)
    (hp : row.pattern = op.setWidth 8) (hrow : row ∈ opcodeTable) (i : Instr) (hn : row.mnemonic = mnemonic i)
    (d : Word) (he : encode i = .cmd d) (hw : wellFormed i = hasOpcode op d) : Statement i := by
  intro hwf
  have ho := (hasOpcode_iff op d).mp (hw ▸ hwf)
  refine ⟨row, hrow, hn, ?_⟩
  have := opcodeOf_mask d
  rw [he]; simp [TableRow.fits, hf, hm, hp, this, ho]

/-- A command word with a row's opcode and mode fits the row (mask 0x1F). -/
theorem mode_fits (op : BitVec 4) (m : Bool) (row : TableRow) (hf : row.format = .command) (hm : row.mask = 0x1F)
    (hp : row.pattern = (BitVec.ofBool m ++ op).setWidth 8) (hrow : row ∈ opcodeTable) (i : Instr)
    (hn : row.mnemonic = mnemonic i) (d : Word) (he : encode i = .cmd d)
    (hw : wellFormed i = hasOpcodeAndMode op m d) : Statement i := by
  intro hwf
  have ho := (hasOpcodeAndMode_iff op m d).mp (hw ▸ hwf)
  refine ⟨row, hrow, hn, ?_⟩
  have := modeOf_mask d
  rw [he]; simp [TableRow.fits, hf, hm, hp, this, ho]

theorem rdId (a : BitVec 6) : Statement (.rdId a) :=
  read_fits .id ⟨"RD_ID", .bustx, 0x00, 0x7C⟩ (by decide) (by decide) _ rfl a rfl rfl

theorem wrId (a : BitVec 6) (d : Word) : Statement (.wrId a d) :=
  write_fits .id ⟨"WR_ID", .bustx, 0x40, 0x7C⟩ (by decide) (by decide) _ rfl a d rfl rfl

theorem rdCtrl (a : BitVec 6) : Statement (.rdCtrl a) :=
  read_fits .ctrl ⟨"RD_CTRL", .bustx, 0x04, 0x7C⟩ (by decide) (by decide) _ rfl a rfl rfl

theorem wrCtrl (a : BitVec 6) (d : Word) : Statement (.wrCtrl a d) :=
  write_fits .ctrl ⟨"WR_CTRL", .bustx, 0x44, 0x7C⟩ (by decide) (by decide) _ rfl a d rfl rfl

theorem rdCmd (a : BitVec 6) : Statement (.rdCmd a) :=
  read_fits .cmd ⟨"RD_CMD", .bustx, 0x08, 0x7C⟩ (by decide) (by decide) _ rfl a rfl rfl

theorem wrCmd (a : BitVec 6) (d : Word) : Statement (.wrCmd a d) :=
  write_fits .cmd ⟨"WR_CMD", .bustx, 0x48, 0x7C⟩ (by decide) (by decide) _ rfl a d rfl rfl

theorem rdInLen (a : BitVec 6) : Statement (.rdInLen a) :=
  read_fits .inLen ⟨"RD_IN_LEN", .bustx, 0x0C, 0x7C⟩ (by decide) (by decide) _ rfl a rfl rfl

theorem wrInLen (a : BitVec 6) (d : Word) : Statement (.wrInLen a d) :=
  write_fits .inLen ⟨"WR_IN_LEN", .bustx, 0x4C, 0x7C⟩ (by decide) (by decide) _ rfl a d rfl rfl

theorem rdStatus (a : BitVec 6) : Statement (.rdStatus a) :=
  read_fits .status ⟨"RD_STATUS", .bustx, 0x10, 0x7C⟩ (by decide) (by decide) _ rfl a rfl rfl

theorem wrStatus (a : BitVec 6) (d : Word) : Statement (.wrStatus a d) :=
  write_fits .status ⟨"WR_STATUS", .bustx, 0x50, 0x7C⟩ (by decide) (by decide) _ rfl a d rfl rfl

theorem rdErrCode (a : BitVec 6) : Statement (.rdErrCode a) :=
  read_fits .errCode ⟨"RD_ERR_CODE", .bustx, 0x14, 0x7C⟩ (by decide) (by decide) _ rfl a rfl rfl

theorem wrErrCode (a : BitVec 6) (d : Word) : Statement (.wrErrCode a d) :=
  write_fits .errCode ⟨"WR_ERR_CODE", .bustx, 0x54, 0x7C⟩ (by decide) (by decide) _ rfl a d rfl rfl

theorem rdErrPos (a : BitVec 6) : Statement (.rdErrPos a) :=
  read_fits .errPos ⟨"RD_ERR_POS", .bustx, 0x18, 0x7C⟩ (by decide) (by decide) _ rfl a rfl rfl

theorem wrErrPos (a : BitVec 6) (d : Word) : Statement (.wrErrPos a d) :=
  write_fits .errPos ⟨"WR_ERR_POS", .bustx, 0x58, 0x7C⟩ (by decide) (by decide) _ rfl a d rfl rfl

theorem rdInCount (a : BitVec 6) : Statement (.rdInCount a) :=
  read_fits .inCount ⟨"RD_IN_COUNT", .bustx, 0x1C, 0x7C⟩ (by decide) (by decide) _ rfl a rfl rfl

theorem wrInCount (a : BitVec 6) (d : Word) : Statement (.wrInCount a d) :=
  write_fits .inCount ⟨"WR_IN_COUNT", .bustx, 0x5C, 0x7C⟩ (by decide) (by decide) _ rfl a d rfl rfl

theorem rdOutCount (a : BitVec 6) : Statement (.rdOutCount a) :=
  read_fits .outCount ⟨"RD_OUT_COUNT", .bustx, 0x20, 0x7C⟩ (by decide) (by decide) _ rfl a rfl rfl

theorem wrOutCount (a : BitVec 6) (d : Word) : Statement (.wrOutCount a d) :=
  write_fits .outCount ⟨"WR_OUT_COUNT", .bustx, 0x60, 0x7C⟩ (by decide) (by decide) _ rfl a d rfl rfl

theorem rdInData (a : BitVec 6) : Statement (.rdInData a) :=
  read_fits .inData ⟨"RD_IN_DATA", .bustx, 0x24, 0x7C⟩ (by decide) (by decide) _ rfl a rfl rfl

theorem wrInData (a : BitVec 6) (d : Word) : Statement (.wrInData a d) :=
  write_fits .inData ⟨"WR_IN_DATA", .bustx, 0x64, 0x7C⟩ (by decide) (by decide) _ rfl a d rfl rfl

theorem rdOutData (a : BitVec 6) : Statement (.rdOutData a) :=
  read_fits .outData ⟨"RD_OUT_DATA", .bustx, 0x28, 0x7C⟩ (by decide) (by decide) _ rfl a rfl rfl

theorem wrOutData (a : BitVec 6) (d : Word) : Statement (.wrOutData a d) :=
  write_fits .outData ⟨"WR_OUT_DATA", .bustx, 0x68, 0x7C⟩ (by decide) (by decide) _ rfl a d rfl rfl

theorem rdParam (a : BitVec 6) : Statement (.rdParam a) :=
  read_fits .param ⟨"RD_PARAM", .bustx, 0x2C, 0x7C⟩ (by decide) (by decide) _ rfl a rfl rfl

theorem wrParam (a : BitVec 6) (d : Word) : Statement (.wrParam a d) :=
  write_fits .param ⟨"WR_PARAM", .bustx, 0x6C, 0x7C⟩ (by decide) (by decide) _ rfl a d rfl rfl

theorem rdReserved (a : BitVec 6) : Statement (.rdReserved a) :=
  read_fits .reserved ⟨"RD_reserved__0x30-0x3C", .bustx, 0x30, 0x70⟩ (by decide) (by decide) _ rfl a rfl rfl

theorem wrReserved (a : BitVec 6) (d : Word) : Statement (.wrReserved a d) :=
  write_fits .reserved ⟨"WR_reserved__0x30-0x3C", .bustx, 0x70, 0x70⟩ (by decide) (by decide) _ rfl a d rfl rfl

theorem nop (d : Word) : Statement (.nop d) :=
  opcode_fits 0 ⟨"NOP", .command, 0x00, 0x0F⟩ rfl rfl rfl (by decide) _ rfl d rfl rfl

theorem b64enc (d : Word) : Statement (.b64enc d) :=
  opcode_fits 1 ⟨"B64ENC", .command, 0x01, 0x0F⟩ rfl rfl rfl (by decide) _ rfl d rfl rfl

theorem b64dec (d : Word) : Statement (.b64dec d) :=
  mode_fits 2 false ⟨"B64DEC", .command, 0x02, 0x1F⟩ rfl rfl rfl (by decide) _ rfl d rfl rfl

theorem b64decReject (d : Word) : Statement (.b64decReject d) :=
  mode_fits 2 true ⟨"B64DEC.REJECT", .command, 0x12, 0x1F⟩ rfl rfl rfl (by decide) _ rfl d rfl rfl

theorem u8decLenient (d : Word) : Statement (.u8decLenient d) :=
  mode_fits 3 false ⟨"U8DEC.LENIENT", .command, 0x03, 0x1F⟩ rfl rfl rfl (by decide) _ rfl d rfl rfl

theorem u8decStrict (d : Word) : Statement (.u8decStrict d) :=
  mode_fits 3 true ⟨"U8DEC.STRICT", .command, 0x13, 0x1F⟩ rfl rfl rfl (by decide) _ rfl d rfl rfl

theorem u8enc (d : Word) : Statement (.u8enc d) :=
  opcode_fits 4 ⟨"U8ENC", .command, 0x04, 0x0F⟩ rfl rfl rfl (by decide) _ rfl d rfl rfl

theorem illegal5 (d : Word) : Statement (.illegal5 d) :=
  opcode_fits 5 ⟨"ILLEGAL_5", .command, 0x05, 0x0F⟩ rfl rfl rfl (by decide) _ rfl d rfl rfl

theorem illegal6 (d : Word) : Statement (.illegal6 d) :=
  opcode_fits 6 ⟨"ILLEGAL_6", .command, 0x06, 0x0F⟩ rfl rfl rfl (by decide) _ rfl d rfl rfl

theorem illegal7 (d : Word) : Statement (.illegal7 d) :=
  opcode_fits 7 ⟨"ILLEGAL_7", .command, 0x07, 0x0F⟩ rfl rfl rfl (by decide) _ rfl d rfl rfl

theorem illegal8 (d : Word) : Statement (.illegal8 d) :=
  opcode_fits 8 ⟨"ILLEGAL_8", .command, 0x08, 0x0F⟩ rfl rfl rfl (by decide) _ rfl d rfl rfl

theorem illegal9 (d : Word) : Statement (.illegal9 d) :=
  opcode_fits 9 ⟨"ILLEGAL_9", .command, 0x09, 0x0F⟩ rfl rfl rfl (by decide) _ rfl d rfl rfl

theorem illegalA (d : Word) : Statement (.illegalA d) :=
  opcode_fits 10 ⟨"ILLEGAL_A", .command, 0x0A, 0x0F⟩ rfl rfl rfl (by decide) _ rfl d rfl rfl

theorem illegalB (d : Word) : Statement (.illegalB d) :=
  opcode_fits 11 ⟨"ILLEGAL_B", .command, 0x0B, 0x0F⟩ rfl rfl rfl (by decide) _ rfl d rfl rfl

theorem illegalC (d : Word) : Statement (.illegalC d) :=
  opcode_fits 12 ⟨"ILLEGAL_C", .command, 0x0C, 0x0F⟩ rfl rfl rfl (by decide) _ rfl d rfl rfl

theorem illegalD (d : Word) : Statement (.illegalD d) :=
  opcode_fits 13 ⟨"ILLEGAL_D", .command, 0x0D, 0x0F⟩ rfl rfl rfl (by decide) _ rfl d rfl rfl

theorem illegalE (d : Word) : Statement (.illegalE d) :=
  opcode_fits 14 ⟨"ILLEGAL_E", .command, 0x0E, 0x0F⟩ rfl rfl rfl (by decide) _ rfl d rfl rfl

theorem abort (d : Word) : Statement (.abort d) :=
  opcode_fits 15 ⟨"ABORT", .command, 0x0F, 0x0F⟩ rfl rfl rfl (by decide) _ rfl d rfl rfl

end Sys2Proof.Laws.TableRow
end

