-- ==== Sys2Proof/Laws/Step.lean ====
section
/-! SUPPORT. What one step can do, said once for each agent: a host transaction (`HostStep`), a consume step and a final step
of the engine. A proof over steps starts from these cases and does not unfold the meanings again. -/

namespace Sys2Proof.Machine

/-! ## Host transactions -/

theorem opcode_cases : ∀ o : BitVec 4, o = 0 ∨ o = 1 ∨ o = 2 ∨ o = 3 ∨ o = 4 ∨ o = 5 ∨ o = 6 ∨ o = 7 ∨ o = 8 ∨ o = 9 ∨
    o = 10 ∨ o = 11 ∨ o = 12 ∨ o = 13 ∨ o = 14 ∨ o = 15 := by decide

/-- What a CMD write with data `d` does (R89): nothing, ABORT, BusyCommand, Start or IllegalCommand. -/
theorem command_cases {d : Word} {s t : State} (h : exec (decode (.cmd d)) s = .next t) :
    (opcodeOf d = 0 ∧ t = s) ∨ (opcodeOf d = 0xF ∧ t = abortOperation (modeOf d) s) ∨
      (opcodeOf d ≠ 0 ∧ opcodeOf d ≠ 0xF ∧ s.phase ≠ .idle ∧ t = raiseProtocolError s) ∨
      (1 ≤ (opcodeOf d).toNat ∧ (opcodeOf d).toNat ≤ 4 ∧ s.phase = .idle ∧ t = start (opcodeOf d) (modeOf d) s) ∨
      (5 ≤ (opcodeOf d).toNat ∧ (opcodeOf d).toNat ≤ 14 ∧ s.phase = .idle ∧
        t = illegalCommand (opcodeOf d) (modeOf d) s) := by
  by_cases hi : s.phase = .idle <;> cases hm : modeOf d <;>
    rcases opcode_cases (opcodeOf d) with o | o | o | o | o | o | o | o | o | o | o | o | o | o | o | o <;>
    simp [decode, decodeCmd, o, hm, exec, execNop, execB64enc, execB64dec, execB64decReject, execU8decLenient,
      execU8decStrict, execU8enc, execIllegal5, execIllegal6, execIllegal7, execIllegal8, execIllegal9, execIllegalA,
      execIllegalB, execIllegalC, execIllegalD, execIllegalE, execAbort, issueCodec, issueIllegal, hi,
      busyCommand] at h ⊢ <;>
    exact h.symm

/-- The T words of the transactions that act, by WE and register (R80, R83). -/
theorem acting_words : ∀ t : BitVec 7,
    (t &&& 0x7C = 0x44 ↔ t.getLsbD 6 = true ∧ regAt (t.extractLsb' 0 6) = .ctrl) ∧
    (t &&& 0x7C = 0x48 ↔ t.getLsbD 6 = true ∧ regAt (t.extractLsb' 0 6) = .cmd) ∧
    (t &&& 0x7C = 0x4C ↔ t.getLsbD 6 = true ∧ regAt (t.extractLsb' 0 6) = .inLen) ∧
    (t &&& 0x7C = 0x50 ↔ t.getLsbD 6 = true ∧ regAt (t.extractLsb' 0 6) = .status) ∧
    (t &&& 0x7C = 0x64 ↔ t.getLsbD 6 = true ∧ regAt (t.extractLsb' 0 6) = .inData) ∧
    (t &&& 0x7C = 0x28 ↔ t.getLsbD 6 = false ∧ regAt (t.extractLsb' 0 6) = .outData) := by decide

/-- A transaction that touches no state but the word it returns: none of CTRL, CMD, IN_LEN, STATUS, IN_DATA written and
OUT_DATA not read. -/
def passive (t : BitVec 7) : Prop :=
  t &&& 0x7C ≠ 0x44 ∧ t &&& 0x7C ≠ 0x48 ∧ t &&& 0x7C ≠ 0x4C ∧ t &&& 0x7C ≠ 0x50 ∧ t &&& 0x7C ≠ 0x64 ∧
    t &&& 0x7C ≠ 0x28

/-- What a host word does to the block, with the T word that does it. -/
inductive HostStep (s : State) : HostWord → State → Prop
  | ignored (u d) : passive u → HostStep s (.bus u d) s
  | read (u d v) : passive u → HostStep s (.bus u d) (respond v s)
  | ctrl (u d) : u &&& 0x7C = 0x44 → HostStep s (.bus u d) { s with irqEn := d.getLsbD 0 }
  | inLen (u d) : u &&& 0x7C = 0x4C → s.phase = .idle → HostStep s (.bus u d) { s with inLen := d }
  | inLenBusy (u d) : u &&& 0x7C = 0x4C → s.phase ≠ .idle → HostStep s (.bus u d) (raiseProtocolError s)
  | status (u d) : u &&& 0x7C = 0x50 → HostStep s (.bus u d) (acknowledge (d.getLsbD 1) (d.getLsbD 5) s)
  | push (u d) : u &&& 0x7C = 0x64 → s.inReady = true → HostStep s (.bus u d) (pushInput d s)
  | pushDropped (u d) : u &&& 0x7C = 0x64 → s.inReady = false → HostStep s (.bus u d) (raiseProtocolError s)
  | pop (u d v rest) : u &&& 0x7C = 0x28 → s.outq = v :: rest → HostStep s (.bus u d) (respond v (popOutput s))
  | popEmpty (u d) : u &&& 0x7C = 0x28 → s.outq = [] → HostStep s (.bus u d) (respond 0 (raiseProtocolError s))
  | busCommand (u d t) : u &&& 0x7C = 0x48 → exec (decode (.cmd d)) s = .next t → HostStep s (.bus u d) t
  | command (d t) : exec (decode (.cmd d)) s = .next t → HostStep s (.cmd d) t

/-- A write of CMD runs the command row its data decodes to (R89, R82). -/
theorem execWrCmd_eq_command (a : BitVec 6) (d : Word) (s : State) :
    execWrCmd a d s = exec (decode (.cmd d)) s := by
  by_cases hi : s.phase = .idle <;> cases hm : modeOf d <;>
    rcases opcode_cases (opcodeOf d) with o | o | o | o | o | o | o | o | o | o | o | o | o | o | o | o <;>
    simp [decode, decodeCmd, o, hm, exec, execWrCmd, execNop, execB64enc, execB64dec, execB64decReject, execU8decLenient,
      execU8decStrict, execU8enc, execIllegal5, execIllegal6, execIllegal7, execIllegal8, execIllegal9, execIllegalA,
      execIllegalB, execIllegalC, execIllegalD, execIllegalE, execAbort, issueCodec, issueIllegal, hi, busyCommand]

/-- Every host transaction is one of the cases of `HostStep`. -/
theorem host_cases {w : HostWord} {s t : State} (h : exec (decode w) s = .next t) : HostStep s w t := by
  cases w with
  | cmd d => exact .command d t h
  | bus u d =>
    obtain ⟨g44, g48, g4C, g50, g64, g28⟩ := acting_words u
    simp only [decode, decodeBus] at h
    cases hw : u.getLsbD 6 <;> cases hr : regAt (u.extractLsb' 0 6) <;>
      simp only [hw, hr, readFrom, writeTo, if_true, if_false, Bool.false_eq_true] at h <;>
      simp only [hw, hr, reduceCtorEq, and_true, and_false, and_self, iff_true, iff_false, Bool.false_eq_true,
        Bool.true_eq_false] at g44 g48 g4C g50 g64 g28
    case false.outData =>
      simp only [exec, execRdOutData] at h
      split at h <;> cases h
      · exact .pop u d _ _ g28 ‹_›
      · exact .popEmpty u d g28 ‹_›
    case true.inLen =>
      cases h; split
      · exact .inLen u d g4C ‹_›
      · exact .inLenBusy u d g4C ‹_›
    case true.inData =>
      cases h; split
      · exact .push u d g64 ‹_›
      · exact .pushDropped u d g64 (by simpa using ‹¬ s.inReady = true›)
    case true.ctrl => cases h; exact .ctrl u d g44
    case true.status => cases h; exact .status u d g50
    case true.cmd => exact .busCommand u d t g48 ((execWrCmd_eq_command (u.extractLsb' 0 6) d s).symm.trans h)
    all_goals cases h
    all_goals first
      | exact .ignored u d ⟨g44, g48, g4C, g50, g64, g28⟩
      | exact .read u d _ ⟨g44, g48, g4C, g50, g64, g28⟩

/-! ## Engine steps -/

/-- What no engine step changes: the host's registers and flags, the latches, PUSHED, and the model's own fields. -/
structure EngineFrame (s t : State) : Prop where
  irqEn     : t.irqEn = s.irqEn
  cmdOpcode : t.cmdOpcode = s.cmdOpcode
  cmdMode   : t.cmdMode = s.cmdMode
  inLen     : t.inLen = s.inLen
  perr      : t.perr = s.perr
  opL       : t.opL = s.opL
  modeL     : t.modeL = s.modeL
  lenL      : t.lenL = s.lenL
  pushed    : t.pushed = s.pushed
  rdData    : t.rdData = s.rdData
  pending   : t.pending = s.pending

/-- What a consume step does with its element leaves DONE, IN_COUNT and INQ, and the operation goes on. -/
structure ConsumeFrame (s t : State) : Prop extends EngineFrame s t where
  done    : t.done = s.done
  inCount : t.inCount = s.inCount
  inq     : t.inq = s.inq
  busy    : t.phase ≠ .idle

/-- The final step completes the operation (R127) and leaves IN_COUNT and INQ. -/
structure FinalFrame (s t : State) : Prop extends EngineFrame s t where
  done    : t.done = true
  inCount : t.inCount = s.inCount
  inq     : t.inq = s.inq
  idle    : t.phase = .idle

variable {s t : State}

theorem consumeEffect_frame {e pos : Word} (hp : s.phase ≠ .idle) (h : consumeEffect e pos s = some t) :
    ConsumeFrame s t := by
  unfold consumeEffect at h
  split at h
  case isTrue hd => cases h; exact ⟨⟨rfl, rfl, rfl, rfl, rfl, rfl, rfl, rfl, rfl, rfl, rfl⟩, rfl, rfl, rfl, hp⟩
  case isFalse =>
    split at h
    case h_1 =>
      unfold b64eConsume at h
      split at h <;> cases h <;>
        refine ⟨⟨?_, ?_, ?_, ?_, ?_, ?_, ?_, ?_, ?_, ?_, ?_⟩, ?_, ?_, ?_, ?_⟩ <;> simp [setGroup, hp]
    case h_2 =>
      cases h
      unfold b64dConsume b64dSextet b64dFlush
      repeat' split
      all_goals
        refine ⟨⟨?_, ?_, ?_, ?_, ?_, ?_, ?_, ?_, ?_, ?_, ?_⟩, ?_, ?_, ?_, ?_⟩ <;> simp [setGroup, hp, enterDrain, setTail1]
    case h_3 =>
      cases h
      unfold u8dConsume u8dStart u8dContinue u8dInvalidLead u8dLead
      dsimp only
      repeat' split
      all_goals
        refine ⟨⟨?_, ?_, ?_, ?_, ?_, ?_, ?_, ?_, ?_, ?_, ?_⟩, ?_, ?_, ?_, ?_⟩ <;>
          simp [setSequence, setLeadPos, emit, hp, enterDrain, setLstop]
    case h_4 =>
      cases h
      unfold u8eConsume
      dsimp only
      split <;> refine ⟨⟨?_, ?_, ?_, ?_, ?_, ?_, ?_, ?_, ?_, ?_, ?_⟩, ?_, ?_, ?_, ?_⟩ <;> simp [hp, setOvf]
    case h_5 => cases h

theorem finalEffect_frame (h : finalEffect s = some t) : FinalFrame s t := by
  unfold finalEffect at h
  split at h
  case isTrue => cases h; exact ⟨⟨rfl, rfl, rfl, rfl, rfl, rfl, rfl, rfl, rfl, rfl, rfl⟩, rfl, rfl, rfl, rfl⟩
  case isFalse =>
    split at h
    case h_1 =>
      unfold b64eFinal at h
      split at h <;> cases h <;>
        refine ⟨⟨?_, ?_, ?_, ?_, ?_, ?_, ?_, ?_, ?_, ?_, ?_⟩, ?_, ?_, ?_, ?_⟩ <;> simp [setGroup, complete]
    case h_2 =>
      cases h
      unfold b64dFinal b64dFlush
      split <;> refine ⟨⟨?_, ?_, ?_, ?_, ?_, ?_, ?_, ?_, ?_, ?_, ?_⟩, ?_, ?_, ?_, ?_⟩ <;>
        simp [setGroup, complete, setTail1]
    case h_3 =>
      cases h
      unfold u8dFinal
      repeat' split
      all_goals
        refine ⟨⟨?_, ?_, ?_, ?_, ?_, ?_, ?_, ?_, ?_, ?_, ?_⟩, ?_, ?_, ?_, ?_⟩ <;> simp [setSequence, complete, setLstop]
    case h_4 => cases h; exact ⟨⟨rfl, rfl, rfl, rfl, rfl, rfl, rfl, rfl, rfl, rfl, rfl⟩, rfl, rfl, rfl, rfl⟩
    case h_5 => cases h

/-- An element that is no ASCII byte gives no code point by itself: the classes by bit 7 (R78). -/
theorem classifyLead_ascii (c : Byte) :
    (c.extractLsb' 7 1 = 0#1 ∧ classifyLead c = .ascii (c.extractLsb' 0 7)) ∨
      (c.extractLsb' 7 1 ≠ 0#1 ∧ ∀ v, classifyLead c ≠ .ascii v) := by
  by_cases h : c.extractLsb' 7 1 = 0#1
  · exact .inl ⟨h, if_pos h⟩
  · refine .inr ⟨h, fun v => ?_⟩
    unfold classifyLead
    rw [if_neg (show ¬ c.extractLsb' 7 1 = 0 from h)]
    repeat' split
    all_goals simp

/-- `emits n s t`: from `s` to `t` exactly `n` elements are appended to OUTQ and counted, at most four. -/
def emits (n : Nat) (s t : State) : Prop :=
  ∃ vs : List Word, t.outq = s.outq ++ vs ∧ t.outCount = s.outCount + BitVec.ofNat 32 vs.length ∧ vs.length = n ∧ n ≤ 4

theorem emits_nothing (hq : t.outq = s.outq) (hc : t.outCount = s.outCount) : emits 0 s t :=
  ⟨[], by simp [hq], by simp [hc], rfl, by decide⟩

theorem pair_cases : ∀ k : BitVec 2, k = 0 ∨ k = 1 ∨ k = 2 ∨ k = 3 := by decide

/-- A consume step emits as many elements as R124 counts for it. -/
theorem consumeEffect_emits {e pos : Word} {n : Nat} (h : consumeEffect e pos s = some t)
    (hn : consumeCount e s = some n) : emits n s t := by
  unfold consumeEffect at h
  unfold consumeCount at hn
  split at h
  case isTrue hd => cases h; rw [if_pos hd] at hn; cases hn; exact emits_nothing rfl rfl
  case isFalse hd =>
    rw [if_neg hd] at hn
    split at h <;> rename_i hc <;> simp only [hc] at hn
    case h_1 =>
      rcases pair_cases s.k with k | k | k | k <;> simp [b64eConsume, b64eConsumeCount, k] at h hn <;> subst h <;> subst hn
      · exact emits_nothing rfl rfl
      · exact emits_nothing rfl rfl
      · exact ⟨fullGroupChars (s.acc.extractLsb' 0 16 ++ byteOf e), by simp [setGroup, fullGroupChars]⟩
    case h_2 =>
      cases h; cases hn
      unfold b64dConsume b64dConsumeCount
      have sextet : ∀ v, emits (if s.k = 3 then 3 else 0) s (b64dSextet v s) := by
        intro v
        unfold b64dSextet
        split
        · exact ⟨fullGroupBytes (s.acc.extractLsb' 0 18 ++ v), by simp [setGroup, fullGroupBytes]⟩
        · exact emits_nothing rfl rfl
      cases inv (byteOf e) with
      | pad =>
        refine ⟨tailBytes s.k s.acc, ?_⟩
        rcases pair_cases s.k with k | k | k | k <;>
          simp [b64dFlush, k, enterDrain, setGroup, setTail1, tailBytes, b64dTailCount]
      | index v => exact sextet v
      | unrecognized =>
        cases hm : s.modeL
        · exact sextet 0
        · exact emits_nothing (by simp [setGroup]) (by simp [setGroup])
    case h_3 =>
      cases h; cases hn
      rcases pair_cases s.need with k | k | k | k
      · simp only [u8dConsume, k, if_true, u8dConsumeCount]
        rcases classifyLead_ascii (byteOf e) with ⟨hb, hv⟩ | ⟨hb, hv⟩
        · exact ⟨[element (0#1 ++ (byteOf e).extractLsb' 0 7)], by simp [u8dStart, hv, hb, emit]⟩
        · show emits (if (byteOf e).extractLsb' 7 1 = 0#1 then 1 else 0) s _
          rw [if_neg hb]
          unfold u8dStart
          split
          case h_1 v h => exact absurd h (hv v)
          case h_5 =>
            unfold u8dInvalidLead
            split <;> exact emits_nothing (by simp [enterDrain, setLstop]) (by simp [enterDrain, setLstop])
          all_goals exact emits_nothing rfl rfl
      · exact ⟨[(shiftIn6 s.acc (payload (byteOf e))).setWidth 32], by
          simp [u8dConsume, k, u8dContinue, setSequence, emit, u8dConsumeCount]⟩
      · exact ⟨[], by simp [u8dConsume, k, u8dContinue, setSequence, u8dConsumeCount]⟩
      · exact ⟨[], by simp [u8dConsume, k, u8dContinue, setSequence, u8dConsumeCount]⟩
    case h_4 =>
      cases h; cases hn
      refine ⟨utf8Bytes e, ?_, ?_, ?_, ?_⟩
      · unfold u8eConsume; dsimp only; split <;> simp [setOvf]
      · unfold u8eConsume; dsimp only; split <;> simp [setOvf]
      · unfold utf8Bytes u8eConsumeCount; repeat' split
        all_goals rfl
      · unfold u8eConsumeCount; repeat' split
        all_goals decide
    case h_5 => cases h

/-- The final step emits as many elements as R124 counts for it. -/
theorem finalEffect_emits {n : Nat} (h : finalEffect s = some t) (hn : finalCount s = some n) : emits n s t := by
  unfold finalEffect at h
  unfold finalCount at hn
  split at h
  case isTrue hd => cases h; rw [if_pos hd] at hn; cases hn; exact emits_nothing rfl rfl
  case isFalse hd =>
    rw [if_neg hd] at hn
    split at h <;> rename_i hc <;> simp only [hc] at hn
    case h_1 =>
      rcases pair_cases s.k with k | k | k | k <;> simp [b64eFinal, b64eFinalCount, k] at h hn <;> subst h <;> subst hn
      · exact emits_nothing rfl rfl
      · exact ⟨oneByteChars (s.acc.extractLsb' 0 8), by simp [complete, setGroup, oneByteChars]⟩
      · exact ⟨twoByteChars (s.acc.extractLsb' 8 8) (s.acc.extractLsb' 0 8), by
          simp [complete, setGroup, twoByteChars]⟩
    case h_2 =>
      cases h; cases hn
      refine ⟨tailBytes s.k s.acc, ?_⟩
      rcases pair_cases s.k with k | k | k | k <;>
        simp [b64dFinal, b64dFinalCount, b64dFlush, k, complete, setGroup, setTail1, tailBytes, b64dTailCount]
    case h_3 =>
      cases h; cases hn
      unfold u8dFinal
      repeat' split
      all_goals exact emits_nothing (by simp [complete, setLstop, setSequence]) (by simp [complete, setLstop, setSequence])
    case h_4 => cases h; cases hn; exact emits_nothing rfl rfl
    case h_5 => cases h

end Sys2Proof.Machine
end

