-- ==== Sys2Proof/Tests/Slice0.lean ====
section
/-! SUPPORT. Tests and witnesses. Expected values come from the spec: the encodings of 30_encoding.md, and the vectors
L1 and L2, the host vectors H1 to H16 and the programs P1 to P5 of 95_test_vectors.md, as named at each test. A theorem
`witness_<Obligation>` shows a state and operands that meet that statement's hypotheses, one for each clause. -/

namespace Sys2Proof.Tests

open Sys2Proof.Machine

/-! ## Well-formedness: an ill-formed term for each check, refused -/

/-- Reads and writes whose offset lies in another register, each the first offset above or the last below (R15). -/
theorem test_wrong_register_is_ill_formed :
    ([.rdId 0x04, .wrId 0x04 0, .rdCtrl 0x03, .wrCtrl 0x08 0, .rdCmd 0x07, .wrCmd 0x0C 0, .rdInLen 0x0B,
      .wrInLen 0x10 0, .rdStatus 0x0F, .wrStatus 0x14 0, .rdErrCode 0x13, .wrErrCode 0x18 0, .rdErrPos 0x17] ++
      [.wrErrPos 0x1C 0, .rdInCount 0x1B, .wrInCount 0x20 0, .rdOutCount 0x1F, .wrOutCount 0x24 0, .rdInData 0x23,
      .wrInData 0x28 0, .rdOutData 0x27, .wrOutData 0x2C 0, .rdParam 0x2B, .wrParam 0x30 0, .rdReserved 0x2F,
      .wrReserved 0x2C 0] : List Instr).all (fun i => !wellFormed i) = true := by decide

/-- Commands whose data word has another OPCODE (R63). -/
theorem test_wrong_opcode_is_ill_formed :
    ([.nop 0x1, .b64enc 0x2, .b64dec 0x3, .b64decReject 0x13, .u8decLenient 0x2, .u8decStrict 0x12, .u8enc 0x5,
      .illegal5 0x4, .illegal6 0x7] ++ [.illegal7 0x6, .illegal8 0x0, .illegal9 0x8, .illegalA 0xB, .illegalB 0xA,
      .illegalC 0xD, .illegalD 0xC, .illegalE 0xF, .abort 0xE] : List Instr).all (fun i => !wellFormed i) = true := by
  decide

/-- B64DEC and U8DEC commands whose data word has the other MODE (R64). -/
theorem test_wrong_mode_is_ill_formed :
    ([.b64dec 0x12, .b64decReject 0x02, .u8decLenient 0x13, .u8decStrict 0x03] : List Instr).all
      (fun i => !wellFormed i) = true := by decide

/-! ## Decoding: for every constructor a word written from the spec's encoding -/

/-- T = {WE, ADDR[5:0]} (R80), each register read at its own offset (R15), bit by bit. -/
theorem test_read_words_decode :
    ([(0b0000000, .rdId 0x00), (0b0000100, .rdCtrl 0x04), (0b0001000, .rdCmd 0x08), (0b0001100, .rdInLen 0x0C),
      (0b0010000, .rdStatus 0x10), (0b0010100, .rdErrCode 0x14), (0b0011000, .rdErrPos 0x18),
      (0b0011100, .rdInCount 0x1C), (0b0100000, .rdOutCount 0x20), (0b0100100, .rdInData 0x24),
      (0b0101000, .rdOutData 0x28), (0b0101100, .rdParam 0x2C), (0b0110000, .rdReserved 0x30)] :
      List (BitVec 7 × Instr)).all (fun p => decide (decode (.bus p.1 0) = p.2)) = true := by decide

/-- The writes, WE = 1, with their data word. -/
theorem test_write_words_decode :
    ([(0b1000000, .wrId 0x00 7), (0b1000100, .wrCtrl 0x04 7), (0b1001000, .wrCmd 0x08 7), (0b1001100, .wrInLen 0x0C 7),
      (0b1010000, .wrStatus 0x10 7), (0b1010100, .wrErrCode 0x14 7), (0b1011000, .wrErrPos 0x18 7),
      (0b1011100, .wrInCount 0x1C 7), (0b1100000, .wrOutCount 0x20 7), (0b1100100, .wrInData 0x24 7),
      (0b1101000, .wrOutData 0x28 7), (0b1101100, .wrParam 0x2C 7), (0b1110000, .wrReserved 0x30 7)] :
      List (BitVec 7 × Instr)).all (fun p => decide (decode (.bus p.1 7) = p.2)) = true := by decide

/-- ADDR[1:0] are ignored, and 0x30 to 0x3F are reserved (R50, R108, R109). -/
theorem test_edges_of_registers_decode :
    decode (.bus 0b0000011 0) = .rdId 0x03 ∧ decode (.bus 0b1001111 2) = .wrInLen 0x0F 2 ∧
    decode (.bus 0b0101111 0) = .rdParam 0x2F ∧ decode (.bus 0b0111111 0) = .rdReserved 0x3F ∧
    decode (.bus 0b1111100 9) = .wrReserved 0x3C 9 := by decide

/-- OPCODE in bits 3:0, MODE in bit 4 (R62 to R64), bit by bit. -/
theorem test_command_words_decode :
    ([(0b00000, .nop 0x00), (0b00001, .b64enc 0x01), (0b00010, .b64dec 0x02), (0b10010, .b64decReject 0x12),
      (0b00011, .u8decLenient 0x03), (0b10011, .u8decStrict 0x13), (0b00100, .u8enc 0x04), (0b00101, .illegal5 0x05),
      (0b00110, .illegal6 0x06)] ++ [(0b00111, .illegal7 0x07), (0b01000, .illegal8 0x08), (0b01001, .illegal9 0x09),
      (0b01010, .illegalA 0x0A), (0b01011, .illegalB 0x0B), (0b01100, .illegalC 0x0C), (0b01101, .illegalD 0x0D),
      (0b01110, .illegalE 0x0E), (0b01111, .abort 0x0F)] :
      List (Word × Instr)).all (fun p => decide (decode (.cmd p.1) = p.2)) = true := by decide

/-- MODE is ignored by NOP, B64ENC, U8ENC, ABORT and the illegal opcodes, and bits 31:5 by all (R65; H3, H6, H10). -/
theorem test_ignored_command_bits :
    decode (.cmd 0xFFFFFFE1) = .b64enc 0xFFFFFFE1 ∧ decode (.cmd 0xFFFFFF1E) = .illegalE 0xFFFFFF1E ∧
    decode (.cmd 0x1F) = .abort 0x1F ∧ decode (.cmd 0x10) = .nop 0x10 ∧ decode (.cmd 0xFFFFFFF2) = .b64decReject 0xFFFFFFF2 := by
  decide

/-- Table words: T alone, T with its 32 data bits, a command number; T has no bit 7. -/
theorem test_table_words :
    decodeTableWord 8 0x4C = some (.wrInLen 0x0C 0) ∧ decodeTableWord 40 0x024C = some (.wrInLen 0x0C 2) ∧
    decodeTableWord 8 0x13 = some (.u8decStrict 0x13) ∧ decodeTableWord 8 0x28 = some (.rdOutData 0x28) ∧
    decodeTableWord 40 0x00 = some (.rdId 0) ∧ decodeTableWord 8 0x80 = none ∧ decodeTableWord 8 0x100 = none := by
  decide

/-! ## Helpers -/

/-- The state an outcome goes on with. -/
def stateOf : Host.Outcome State Fault Refusal → Option State
  | .next s => some s
  | _ => none

/-- The word a read returned. -/
def answer (o : Host.Outcome State Fault Refusal) : Option Word := (stateOf o).map State.rdData

/-- A block that runs opcode `op` over `len` elements, with `es` pushed and none consumed. -/
def running (op : BitVec 4) (mode : Bool) (len : Word) (es : List Word) : State :=
  { State.reset with
    phase := .run, cmdOpcode := op, cmdMode := mode, inLen := len, opL := op, modeL := mode, lenL := len
    inq := es, pushed := BitVec.ofNat 32 es.length }

/-- A running block that has consumed `n` elements. -/
def consumed (n : Word) (s : State) : State := { s with inCount := n, pushed := s.pushed + n }

/-- A block whose OUTQ is full. -/
def full (s : State) : State := { s with outq := List.replicate Config.outDepth 0 }

/-- A block whose next step is the event `e`. -/
def before (e : Event) (s : State) : State := { s with pending := [e] }

/-- A write event, by its T and data. -/
def write (t : BitVec 7) (d : Word) : Event := .host (.bus t d)

/-- The block of P2 at its line 14: strict decode of E2 82 AC E0, done. -/
def afterP2 : State :=
  { State.reset with
    cmdOpcode := 3, cmdMode := true, inLen := 4, opL := 3, modeL := true, lenL := 4, pushed := 4, inCount := 4
    outCount := 1, outq := [0x20AC], done := true, errCode := .u8Trunc, errPos := 3, leadPos := 3 }

variable {s t : State}

/-- A consume step on an empty OUTQ is never held back. -/
theorem turn_consumes {e : Word} {rest : List Word} {n : Nat} (hp : s.phase ≠ .idle) (hl : s.inCount < s.lenL)
    (hq : s.inq = e :: rest) (hn : consumeCount e s = some n) (h4 : n ≤ 4) (ho : s.outq = [])
    (ht : consumeEffect e s.inCount (popInput s) = some t) : engineTurn s = .next t := by
  rw [engineTurn_consume ⟨hp, hl, by simp [hq], n, hn, hasRoom_of_empty s ho h4⟩, ht]; rfl

/-- The final step on an empty OUTQ is never held back. -/
theorem turn_finishes {n : Nat} (hp : s.phase ≠ .idle) (hl : s.inCount = s.lenL) (hn : finalCount s = some n)
    (h4 : n ≤ 4) (ho : s.outq = []) (ht : finalEffect s = some t) : engineTurn s = .next t := by
  rw [engineTurn_final ⟨hp, hl, n, hn, hasRoom_of_empty s ho h4⟩, ht]; rfl

/-- A running block with an empty INQ accepts the next element. -/
theorem accepts (hb : s.busy = true) (hl : s.pushed < s.lenL) (hq : s.inq = []) : s.inReady = true := by
  have := inDepth_range
  simp only [State.inReady, hb, hl, hq, decide_true, Bool.true_and, List.length_nil, decide_eq_true_eq]; omega

theorem full_has_no_room {n : Nat} (hn : 0 < n) : ¬ room n (full s) := by
  unfold room full; simp only [List.length_replicate]; omega

theorem empty_has_room {n : Nat} (hn : n ≤ 4) (ho : s.outq = []) : room n s := by
  have := outDepth_range
  unfold room; rw [ho]; simp only [List.length_nil]; omega

/-! ## Reads -/

theorem test_rdId_is_HLC1 : answer (exec (.rdId 0x00) State.reset) = some 0x484C4331 := by decide -- H1

theorem test_rdCtrl_returns_irqEn : answer (exec (.rdCtrl 0x04) { State.reset with irqEn := true }) = some 1 := by
  decide -- H2

theorem test_rdCmd_returns_mode_and_opcode : answer (exec (.rdCmd 0x08) afterP2) = some 0x13 := by decide -- P2

theorem test_rdInLen : answer (exec (.rdInLen 0x0C) afterP2) = some 4 := by decide -- P2

theorem test_rdStatus_done_err_outValid : answer (exec (.rdStatus 0x10) afterP2) = some 0x16 := by decide -- P2, line 14

/-- P5, line 15: BUSY, IN_READY and PERR. -/
theorem test_rdStatus_busy_inReady_perr :
    answer (exec (.rdStatus 0x10) { consumed 1 (running 1 false 5 []) with perr := true }) = some 0x29 := by
  have h : State.inReady { consumed 1 (running 1 false 5 []) with perr := true } = true :=
    accepts (by decide) (by decide) rfl
  simp only [exec, execRdStatus, answer, stateOf, respond, State.statusWord, h, Option.map_some]; decide

theorem test_rdErrCode : answer (exec (.rdErrCode 0x14) afterP2) = some 2 := by decide -- P2, line 12

theorem test_rdErrPos : answer (exec (.rdErrPos 0x18) afterP2) = some 3 := by decide -- P2, line 13

theorem test_rdInCount : answer (exec (.rdInCount 0x1C) afterP2) = some 4 := by decide -- P2

theorem test_rdOutCount : answer (exec (.rdOutCount 0x20) afterP2) = some 1 := by decide -- P2

theorem test_rdInData_is_zero : answer (exec (.rdInData 0x24) { afterP2 with rdData := 0xFFFFFFFF }) = some 0 := by
  decide -- H1

/-- P2, line 15. -/
theorem test_rdOutData_pops :
    (stateOf (exec (.rdOutData 0x28) afterP2)).map (fun t => (t.rdData, t.outq, t.perr)) = some (0x20AC, [], false) := by
  decide

/-- P5, line 4. -/
theorem test_rdOutData_empty :
    (stateOf (exec (.rdOutData 0x28) State.reset)).map (fun t => (t.rdData, t.perr)) = some (0, true) := by decide

/-- R36: OUT_DEPTH in the upper half, IN_DEPTH in the lower. -/
theorem test_rdParam_halves :
    (paramValue.extractLsb' 16 16).toNat = Config.outDepth ∧ (paramValue.extractLsb' 0 16).toNat = Config.inDepth := by
  have h1 := inDepth_range
  have h2 := outDepth_range
  have halves : ∀ a b : BitVec 16, (a ++ b).extractLsb' 16 16 = a ∧ (a ++ b).extractLsb' 0 16 = b := by
    intro a b; constructor
    · exact BitVec.extractLsb'_append_eq_left
    · exact BitVec.extractLsb'_append_eq_right
  unfold paramValue
  rw [(halves _ _).1, (halves _ _).2, BitVec.toNat_ofNat, BitVec.toNat_ofNat]
  omega

theorem test_rdReserved_is_zero : answer (exec (.rdReserved 0x34) { afterP2 with rdData := 0xFFFFFFFF }) = some 0 := by
  decide -- H1

/-! ## Writes -/

/-- H2. -/
theorem test_wrCtrl_takes_bit_0 :
    (stateOf (exec (.wrCtrl 0x04 0xFFFFFFFF) State.reset)).map State.ctrlWord = some 1 ∧
    (stateOf (exec (.wrCtrl 0x04 0xFFFFFFFE) { State.reset with irqEn := true })).map State.ctrlWord = some 0 := by
  decide

/-- H10: ABORT by a CMD write, MODE ignored. -/
theorem test_wrCmd_aborts :
    (stateOf (exec (.wrCmd 0x08 0x1F) afterP2)).map (fun t => (t.statusWord, t.cmdWord, t.outCount)) =
      some (0, 0x1F, 0) := by decide

/-- H7: an illegal opcode while busy sets PERR and CMD keeps its value. -/
theorem test_wrCmd_busy :
    (stateOf (exec (.wrCmd 0x08 0x07) (running 1 false 3 []))).map (fun t => (t.perr, t.cmdWord, t.errCode)) =
      some (true, 1, .none) := by decide

theorem test_wrInLen_idle : (stateOf (exec (.wrInLen 0x0C 9) afterP2)).map State.inLen = some 9 := by decide -- R91

/-- P5, line 12. -/
theorem test_wrInLen_busy :
    (stateOf (exec (.wrInLen 0x0C 9) (running 1 false 5 []))).map (fun t => (t.inLen, t.perr)) = some (5, true) := by
  decide

/-- H9: DONE and PERR cleared, ERR and OUT_VALID stay. -/
theorem test_wrStatus_all_ones :
    (stateOf (exec (.wrStatus 0x10 0xFFFFFFFF) { afterP2 with perr := true })).map State.statusWord = some 0x14 := by
  decide

/-- P5, line 23, and its bits apart. -/
theorem test_wrStatus_bits :
    (stateOf (exec (.wrStatus 0x10 0x02) { afterP2 with perr := true })).map (fun t => (t.done, t.perr)) =
      some (false, true) ∧
    (stateOf (exec (.wrStatus 0x10 0x20) { afterP2 with perr := true })).map (fun t => (t.done, t.perr)) =
      some (true, false) := by decide

/-- P1, line 6: the second push, all 32 bits kept (R68 ignores bits 31:8 only when the element is used). -/
theorem test_wrInData_accepted :
    exec (.wrInData 0x24 0xFFFFFF61) (consumed 1 (running 1 false 2 [])) =
      .next { consumed 1 (running 1 false 2 []) with inq := [0xFFFFFF61], pushed := 2 } := by
  have h : (consumed 1 (running 1 false 2 [])).inReady = true := accepts (by decide) (by decide) rfl
  simp only [exec, execWrInData, h, if_true]; rfl

/-- H8: PUSHED = LEN_L, so the second push is dropped with PERR. -/
theorem test_wrInData_dropped :
    (stateOf (exec (.wrInData 0x24 0x62) (running 1 false 1 [0x61]))).map (fun t => (t.inq, t.pushed, t.perr)) =
      some ([0x61], 1, true) := by decide

/-- H13. -/
theorem test_readonly_writes :
    ([.wrId 0x00 1, .wrErrCode 0x14 1, .wrErrPos 0x18 1, .wrInCount 0x1C 1, .wrOutCount 0x20 1, .wrOutData 0x28 1,
      .wrParam 0x2C 1, .wrReserved 0x30 1] : List Instr).all
      (fun i => decide (stateOf (exec i afterP2) = some afterP2)) = true := by decide

/-! ## Commands -/

/-- R111: `WR CMD, 0x10` during B64ENC. -/
theorem test_nop_busy : stateOf (exec (.nop 0x10) (running 1 false 3 [])) = some (running 1 false 3 []) := by decide

/-- H4: B64ENC keeps D[4] as MODE; PHASE, LEN_L and DONE as Start says. -/
theorem test_b64enc_starts :
    (stateOf (exec (.b64enc 0x11) afterP2)).map (fun t => (t.cmdWord, t.phase, t.lenL, t.done, t.outq)) =
      some (0x11, .run, 4, false, []) := by decide

theorem test_b64dec_starts :
    (stateOf (exec (.b64dec 0x02) State.reset)).map (fun t => (t.opL, t.modeL, t.phase)) = some (2, false, .run) := by
  decide -- R113

theorem test_b64decReject_starts :
    (stateOf (exec (.b64decReject 0x12) State.reset)).map (fun t => (t.opL, t.modeL, t.phase)) =
      some (2, true, .run) := by decide -- R114

/-- H9: the start clears ERR and keeps PERR. -/
theorem test_u8decLenient_clears_the_error :
    (stateOf (exec (.u8decLenient 0x03) { afterP2 with perr := true })).map
      (fun t => (t.cmdWord, t.errCode, t.errPos, t.perr)) = some (0x03, .none, 0, true) := by decide

theorem test_u8decStrict_starts :
    (stateOf (exec (.u8decStrict 0x13) State.reset)).map (fun t => (t.opL, t.modeL, t.phase)) = some (3, true, .run) := by
  decide -- R116

theorem test_u8enc_starts :
    (stateOf (exec (.u8enc 0x04) State.reset)).map (fun t => (t.opL, t.modeL, t.phase)) = some (4, false, .run) := by
  decide -- R117

/-- P5, line 11: a codec command while busy sets PERR only. -/
theorem test_u8enc_busy :
    stateOf (exec (.u8enc 0x04) (running 1 false 5 [0x41])) = some { running 1 false 5 [0x41] with perr := true } := by
  decide

/-- H5, H6: STATUS 0x006, ERR_CODE 1, CMD the written word, for the ten illegal opcodes. -/
theorem test_illegal_while_idle :
    ([(.illegal5 0x05, 0x05), (.illegal6 0x06, 0x06), (.illegal7 0x07, 0x07), (.illegal8 0x08, 0x08),
      (.illegal9 0x09, 0x09), (.illegalA 0x0A, 0x0A), (.illegalB 0x0B, 0x0B), (.illegalC 0x0C, 0x0C),
      (.illegalD 0x0D, 0x0D), (.illegalE 0xFFFFFF1E, 0x1E)] : List (Instr × Word)).all (fun p =>
        decide ((stateOf (exec p.1 afterP2)).map (fun t => (t.statusWord, t.errCodeWord, t.errPos, t.cmdWord)) =
          some (0x006, 1, 0, p.2))) = true := by decide

/-- P5, lines 16 to 19: PERR is kept. -/
theorem test_abort_while_busy :
    (stateOf (exec (.abort 0x0F) { consumed 1 (running 1 false 5 []) with perr := true })).map
      (fun t => (t.statusWord, t.cmdWord, t.inCount, t.inLen)) = some (0x20, 0x0F, 0, 5) := by decide

/-! ## Engine steps, the vectors of L2 -/

/-- L2.1, 4D 61 6E, the third byte; bits 31:8 ignored. -/
theorem test_b64enc_full_group :
    ∃ t, engineTurn { consumed 2 (running 1 false 3 [0x16E]) with k := 2, acc := 0x4D61 } = .next t ∧
      t.outq = [0x54, 0x57, 0x46, 0x75] ∧ t.outCount = 4 ∧ t.k = 0 :=
  ⟨_, turn_consumes (by decide) (by decide) rfl rfl (by decide) rfl rfl, by decide, by decide, by decide⟩

/-- L2.1, FF. -/
theorem test_b64enc_one_byte_tail :
    ∃ t, engineTurn { consumed 1 (running 1 false 1 []) with k := 1, acc := 0xFF } = .next t ∧
      t.outq = [0x2F, 0x77, 0x3D, 0x3D] ∧ t.done = true :=
  ⟨_, turn_finishes (by decide) (by decide) rfl (by decide) rfl rfl, by decide, by decide⟩

/-- P1: the tail of "Ma". -/
theorem test_b64enc_two_byte_tail :
    ∃ t, engineTurn { consumed 2 (running 1 false 2 []) with k := 2, acc := 0x4D61 } = .next t ∧
      t.outq = [0x54, 0x57, 0x45, 0x3D] ∧ t.phase = .idle :=
  ⟨_, turn_finishes (by decide) (by decide) rfl (by decide) rfl rfl, by decide, by decide⟩

/-- L1.2, the third group "MiE" at the PAD: ACC = 0x00C884. -/
theorem test_b64dec_pad_flushes :
    ∃ t, engineTurn { consumed 11 (running 2 false 12 [0x3D]) with k := 3, acc := 0x00C884 } = .next t ∧
      t.outq = [0x32, 0x21] ∧ t.phase = .drain :=
  ⟨_, turn_consumes (by decide) (by decide) rfl rfl (by decide) rfl rfl, by decide, by decide⟩

/-- L2.2, "TWFu", the fourth character. -/
theorem test_b64dec_full_group :
    ∃ t, engineTurn { consumed 3 (running 2 false 4 [0x75]) with k := 3, acc := 0x13585 } = .next t ∧
      t.outq = [0x4D, 0x61, 0x6E] ∧ t.acc = 0 :=
  ⟨_, turn_consumes (by decide) (by decide) rfl rfl (by decide) rfl rfl, by decide, by decide⟩

/-- L2.2, "T!Q=": `!` is index 0 in substitute mode. -/
theorem test_b64dec_substitutes :
    ∃ t, engineTurn { consumed 1 (running 2 false 4 [0x21]) with k := 1, acc := 19 } = .next t ∧
      t.acc = 19 * 64 ∧ t.k = 2 :=
  ⟨_, turn_consumes (by decide) (by decide) rfl rfl (by decide) rfl rfl, by decide, by decide⟩

/-- H12: `!` is B64_CHAR at index 1 in reject mode. -/
theorem test_b64dec_rejects :
    ∃ t, engineTurn { consumed 1 (running 2 true 4 [0x21]) with k := 1, acc := 19 } = .next t ∧
      t.errCode = .b64Char ∧ t.errPos = 1 ∧ t.phase = .drain :=
  ⟨_, turn_consumes (by decide) (by decide) rfl rfl (by decide) rfl rfl, by decide, by decide, by decide⟩

/-- L2.2, "T": a tail of one character. -/
theorem test_b64dec_tail1 :
    ∃ t, engineTurn { consumed 1 (running 2 false 1 []) with k := 1, acc := 19 } = .next t ∧
      t.tail1 = true ∧ t.outq = [] ∧ t.done = true :=
  ⟨_, turn_finishes (by decide) (by decide) rfl (by decide) rfl rfl, by decide, by decide, by decide⟩

/-- L2.3, E2 82 AC, the last byte. -/
theorem test_u8dec_code_point :
    ∃ t, engineTurn { consumed 2 (running 3 true 3 [0xAC]) with need := 1, acc := 0x82 } = .next t ∧
      t.outq = [0x20AC] ∧ t.need = 0 :=
  ⟨_, turn_consumes (by decide) (by decide) rfl rfl (by decide) rfl rfl, by decide, by decide⟩

/-- L1.9: E2 as a lead at index 3. -/
theorem test_u8dec_lead :
    ∃ t, engineTurn (consumed 3 (running 3 true 9 [0xE2])) = .next t ∧ t.acc = 2 ∧ t.need = 2 ∧ t.leadPos = 3 :=
  ⟨_, turn_consumes (by decide) (by decide) rfl rfl (by decide) rfl rfl, by decide, by decide, by decide⟩

/-- L2.3, 41 80: an invalid lead, strict. -/
theorem test_u8dec_strict_lead_error :
    ∃ t, engineTurn (consumed 1 (running 3 true 2 [0x80])) = .next t ∧ t.errCode = .u8Lead ∧ t.errPos = 1 :=
  ⟨_, turn_consumes (by decide) (by decide) rfl rfl (by decide) rfl rfl, by decide, by decide⟩

/-- P2: U8_TRUNC at the lead's index. -/
theorem test_u8dec_strict_truncation :
    ∃ t, engineTurn { consumed 4 (running 3 true 4 []) with need := 2, acc := 0, leadPos := 3 } = .next t ∧
      t.errCode = .u8Trunc ∧ t.errPos = 3 ∧ t.done = true :=
  ⟨_, turn_finishes (by decide) (by decide) rfl (by decide) rfl rfl, by decide, by decide, by decide⟩

/-- L1.5: E0 alone, lenient. -/
theorem test_u8dec_lenient_truncation :
    ∃ t, engineTurn { consumed 1 (running 3 false 1 []) with need := 2 } = .next t ∧
      t.lstop = true ∧ t.errCode = .none ∧ t.outq = [] :=
  ⟨_, turn_finishes (by decide) (by decide) rfl (by decide) rfl rfl, by decide, by decide, by decide⟩

/-- L2.4, 800 and 1F600. -/
theorem test_u8enc_three_and_four_bytes :
    (∃ t, engineTurn (running 4 false 1 [0x800]) = .next t ∧ t.outq = [0xE0, 0xA0, 0x80] ∧ t.ovf = false) ∧
    ∃ t, engineTurn (running 4 false 1 [0x1F600]) = .next t ∧ t.outq = [0xF0, 0x9F, 0x98, 0x80] ∧ t.ovf = false :=
  ⟨⟨_, turn_consumes (by decide) (by decide) rfl rfl (by decide) rfl rfl, by decide, by decide⟩,
    ⟨_, turn_consumes (by decide) (by decide) rfl rfl (by decide) rfl rfl, by decide, by decide⟩⟩

/-- L2.4, FFFFFFFF. -/
theorem test_u8enc_overflow :
    ∃ t, engineTurn (running 4 false 1 [0xFFFFFFFF]) = .next t ∧ t.outq = [0xF7, 0xBF, 0xBF, 0xBF] ∧ t.ovf = true :=
  ⟨_, turn_consumes (by decide) (by decide) rfl rfl (by decide) rfl rfl, by decide, by decide⟩

/-- L1.1 and L1.2 by the operation functions: "Test 12!" and back. -/
theorem test_base64_of_source_vector :
    b64eFunction [0x54, 0x65, 0x73, 0x74, 0x20, 0x31, 0x32, 0x21] =
      .plain [0x56, 0x47, 0x56, 0x7A, 0x64, 0x43, 0x41, 0x78, 0x4D, 0x69, 0x45, 0x3D] ∧
    b64dFunction true [0x56, 0x47, 0x56, 0x7A, 0x64, 0x43, 0x41, 0x78, 0x4D, 0x69, 0x45, 0x3D] =
      .plain [0x54, 0x65, 0x73, 0x74, 0x20, 0x31, 0x32, 0x21] := by decide

/-- L2.3: E2 82 AC E0 in both modes. -/
theorem test_utf8_function_truncated :
    u8dFunction true [0xE2, 0x82, 0xAC, 0xE0] = .failed [0x20AC] .u8Trunc 3 ∧
    u8dFunction false [0xE2, 0x82, 0xAC, 0xE0] = .stopped [0x20AC] := by decide

/-! ## The host's entry points -/

/-- A table word placed by `withFetchWord` is the very next step after reset: `WR IN_LEN` writes IN_LEN. -/
theorem test_withFetchWord_runs :
    (stateOf (step (State.reset.withFetchWord 40 0x024C))).map State.inLen = some 2 ∧
    (stateOf (step (State.reset.withFetchWord 8 0x13))).map State.phase = some .run := by decide

/-! ## Witnesses: the hypotheses of each statement can be met -/

theorem witness_DecodeOfEncode :
    ([.rdId 0x00, .wrId 0x03 0, .rdCtrl 0x04, .wrCtrl 0x07 1, .rdCmd 0x08, .wrCmd 0x0B 1, .rdInLen 0x0C,
      .wrInLen 0x0F 1, .rdStatus 0x10, .wrStatus 0x13 1, .rdErrCode 0x14, .wrErrCode 0x17 1, .rdErrPos 0x18,
      .wrErrPos 0x1B 1, .rdInCount 0x1C, .wrInCount 0x1F 1, .rdOutCount 0x20, .wrOutCount 0x23 1] ++
      [.rdInData 0x24, .wrInData 0x27 1, .rdOutData 0x28, .wrOutData 0x2B 1, .rdParam 0x2C, .wrParam 0x2F 1,
      .rdReserved 0x30, .wrReserved 0x3F 1, .nop 0xFFFFFFF0, .b64enc 0x11, .b64dec 0xFFFFFFE2, .b64decReject 0x12,
      .u8decLenient 0x03, .u8decStrict 0xFFFFFFF3, .u8enc 0x14, .illegal5 0x05, .illegal6 0x16] ++
      [.illegal7 0x07, .illegal8 0x18, .illegal9 0x09, .illegalA 0x1A, .illegalB 0x0B, .illegalC 0x1C, .illegalD 0x0D,
      .illegalE 0xFFFFFFFE, .abort 0x1F] : List Instr).all wellFormed = true := by decide

theorem witness_LowAddressBitsAreIgnored :
    (0b1001100 : BitVec 7).extractLsb' 2 5 = (0b1001111 : BitVec 7).extractLsb' 2 5 := by decide

/-- A word at each end of each row the statements of the reads name. -/
theorem witness_readRows :
    (0x03 &&& 0x7C = (0x00 : BitVec 7) ∧ 0x2F &&& 0x7C = (0x2C : BitVec 7) ∧ 0x27 &&& 0x7C = (0x24 : BitVec 7)) ∧
    (0x3F &&& 0x70 = (0x30 : BitVec 7) ∧ 0x07 &&& 0x7C = (0x04 : BitVec 7) ∧ 0x0B &&& 0x7C = (0x08 : BitVec 7)) ∧
    (0x0F &&& 0x7C = (0x0C : BitVec 7) ∧ 0x13 &&& 0x7C = (0x10 : BitVec 7) ∧ 0x17 &&& 0x7C = (0x14 : BitVec 7)) ∧
    (0x1B &&& 0x7C = (0x18 : BitVec 7) ∧ 0x1F &&& 0x7C = (0x1C : BitVec 7) ∧ 0x23 &&& 0x7C = (0x20 : BitVec 7)) ∧
    0x2B &&& 0x7C = (0x28 : BitVec 7) := by decide

/-- The same for the rows the statements of the writes name. -/
theorem witness_writeRows :
    (0x43 &&& 0x7C = (0x40 : BitVec 7) ∧ 0x47 &&& 0x7C = (0x44 : BitVec 7) ∧ 0x4B &&& 0x7C = (0x48 : BitVec 7)) ∧
    (0x4F &&& 0x7C = (0x4C : BitVec 7) ∧ 0x53 &&& 0x7C = (0x50 : BitVec 7) ∧ 0x57 &&& 0x7C = (0x54 : BitVec 7)) ∧
    (0x5B &&& 0x7C = (0x58 : BitVec 7) ∧ 0x5F &&& 0x7C = (0x5C : BitVec 7) ∧ 0x63 &&& 0x7C = (0x60 : BitVec 7)) ∧
    (0x67 &&& 0x7C = (0x64 : BitVec 7) ∧ 0x6B &&& 0x7C = (0x68 : BitVec 7) ∧ 0x6F &&& 0x7C = (0x6C : BitVec 7)) ∧
    0x7F &&& 0x70 = (0x70 : BitVec 7) := by decide

/-- The same for the command rows: with MODE ignored, and with MODE fixed. -/
theorem witness_commandRows :
    (∀ o : BitVec 4, (0xFFFFFFF0#32 ||| o.setWidth 32).extractLsb' 0 5 &&& 0x0F = o.setWidth 5) ∧
    (0xFFFFFFE2#32).extractLsb' 0 5 &&& 0x1F = (0x02 : BitVec 5) ∧
    (0xFFFFFFF2#32).extractLsb' 0 5 &&& 0x1F = (0x12 : BitVec 5) ∧
    (0xFFFFFFE3#32).extractLsb' 0 5 &&& 0x1F = (0x03 : BitVec 5) ∧
    (0xFFFFFFF3#32).extractLsb' 0 5 &&& 0x1F = (0x13 : BitVec 5) := by decide

theorem witness_ReadOutDataPops : afterP2.outq = 0x20AC :: [] ∧ State.reset.outq = [] := ⟨rfl, rfl⟩

theorem witness_WriteControl :
    exec (.wrCtrl 0x04 1) afterP2 = .next { afterP2 with irqEn := true } ∧
    State.irq { afterP2 with irqEn := true } = true := ⟨rfl, by decide⟩

theorem witness_WriteInLen : afterP2.phase = .idle ∧ (running 1 false 5 []).phase ≠ .idle := ⟨rfl, by decide⟩

/-- Accepted with the last element of the operation; refused idle, with PUSHED = LEN_L, and with INQ full. -/
theorem witness_WriteInDataPushes :
    ((consumed 1 (running 1 false 2 [])).phase ≠ .idle ∧
      (consumed 1 (running 1 false 2 [])).pushed < (consumed 1 (running 1 false 2 [])).lenL ∧
      (consumed 1 (running 1 false 2 [])).inq.length < Config.inDepth) ∧
    ¬ (State.reset.phase ≠ .idle ∧ State.reset.pushed < State.reset.lenL ∧
      State.reset.inq.length < Config.inDepth) ∧
    ¬ ((running 1 false 1 [0x61]).phase ≠ .idle ∧ (running 1 false 1 [0x61]).pushed < (running 1 false 1 [0x61]).lenL ∧
      (running 1 false 1 [0x61]).inq.length < Config.inDepth) ∧
    ¬ ((running 1 false 0xFFFFFFFF (List.replicate Config.inDepth 0)).inq.length < Config.inDepth) := by
  refine ⟨⟨by decide, by decide, ?_⟩, ?_, ?_, ?_⟩
  · have := inDepth_range
    simp only [consumed, running, List.length_nil]; omega
  · rintro ⟨h, -⟩; exact h rfl
  · rintro ⟨-, h, -⟩; revert h; decide
  · simp only [running, List.length_replicate]; omega

/-- Each end of each range of opcodes, while idle and while busy. -/
theorem witness_WrCmdIssuesTheCommand :
    opcodeOf 0x10 = 0x0 ∧ opcodeOf 0x1F = 0xF ∧
    (opcodeOf 0x0E ≠ 0x0 ∧ opcodeOf 0x0E ≠ 0xF ∧ (running 1 false 3 []).phase ≠ .idle) ∧
    (1 ≤ (opcodeOf 0x01).toNat ∧ (opcodeOf 0x04).toNat ≤ 4 ∧ State.reset.phase = .idle) ∧
    5 ≤ (opcodeOf 0x05).toNat ∧ (opcodeOf 0x0E).toNat ≤ 14 := by decide

theorem witness_CodecCommandsStart : afterP2.phase = .idle := rfl

theorem witness_IllegalCommandWhileIdle : afterP2.phase = .idle := rfl

theorem witness_BusyCommandIsIgnored :
    (running 3 true 5 []).phase ≠ .idle ∧ State.phase { running 3 true 5 [] with phase := .drain } ≠ .idle ∧
    opcodeOf 0x13 ≠ 0x0 ∧ opcodeOf 0x13 ≠ 0xF := by decide

/-- Idle; INQ empty; a full OUTQ before a step that emits four and before a final step that emits four. -/
theorem witness_IdleAndWaitingEngine :
    State.reset.phase = .idle ∧
    ((running 1 false 2 []).inCount < (running 1 false 2 []).lenL ∧ (running 1 false 2 []).inq = []) ∧
    (consumeCount 0x6E (full { running 1 false 3 [0x6E] with k := 2 }) = some 4 ∧
      Config.outDepth - (full { running 1 false 3 [0x6E] with k := 2 }).outq.length < 4) ∧
    finalCount (full { consumed 1 (running 1 false 1 []) with k := 1 }) = some 4 ∧
      Config.outDepth - (full { consumed 1 (running 1 false 1 []) with k := 1 }).outq.length < 4 := by
  refine ⟨rfl, ⟨by decide, rfl⟩, ⟨rfl, ?_⟩, rfl, ?_⟩ <;> simp only [full, List.length_replicate] <;> omega

theorem witness_DrainDiscardsAndCompletes :
    (State.phase { running 2 false 3 [0x21] with phase := .drain } = .drain ∧
      State.inCount { running 2 false 3 [0x21] with phase := .drain } <
        State.lenL { running 2 false 3 [0x21] with phase := .drain } ∧
      State.inq { running 2 false 3 [0x21] with phase := .drain } = 0x21 :: []) ∧
    State.inCount { consumed 3 (running 2 false 3 []) with phase := .drain } =
      State.lenL { consumed 3 (running 2 false 3 []) with phase := .drain } := by decide

/-- K = 0, K = 1, K = 2 with room, and K = 2 without. -/
theorem witness_Base64EncodeConsume :
    (consumeReady 1 0x4D [] (running 1 false 1 [0x4D]) ∧ (running 1 false 1 [0x4D]).k = 0) ∧
    consumeReady 1 0x61 [] { running 1 false 2 [0x61] with k := 1 } ∧
    (consumeReady 1 0x6E [] { running 1 false 3 [0x6E] with k := 2 } ∧
      room 4 { running 1 false 3 [0x6E] with k := 2 }) ∧
    consumeReady 1 0x6E [] (full { running 1 false 3 [0x6E] with k := 2 }) ∧
      ¬ room 4 (full { running 1 false 3 [0x6E] with k := 2 }) :=
  ⟨⟨⟨rfl, rfl, by decide, rfl⟩, rfl⟩, ⟨rfl, rfl, by decide, rfl⟩,
    ⟨⟨rfl, rfl, by decide, rfl⟩, empty_has_room (by decide) rfl⟩, ⟨rfl, rfl, by decide, rfl⟩, full_has_no_room (by decide)⟩

/-- K = 0, 1 and 2, with room. -/
theorem witness_Base64EncodeFinal :
    (finalReady 1 (consumed 3 (running 1 false 3 [])) ∧ (consumed 3 (running 1 false 3 [])).k = 0) ∧
    (finalReady 1 { consumed 1 (running 1 false 1 []) with k := 1 } ∧
      room 4 { consumed 1 (running 1 false 1 []) with k := 1 }) ∧
    finalReady 1 { consumed 2 (running 1 false 2 []) with k := 2 } ∧
      room 4 { consumed 2 (running 1 false 2 []) with k := 2 } :=
  ⟨⟨⟨rfl, rfl, rfl⟩, rfl⟩, ⟨⟨rfl, rfl, rfl⟩, empty_has_room (by decide) rfl⟩, ⟨rfl, rfl, rfl⟩,
    empty_has_room (by decide) rfl⟩

/-- An index and an unrecognized character; K below 3, K = 3 with room, and K = 3 without. -/
theorem witness_Base64DecodeSextets :
    (consumeReady 2 0x2F [] { running 2 true 4 [0x2F] with k := 2 } ∧ inv ((0x2F : Word).setWidth 8) = .index 63) ∧
    (consumeReady 2 0x21 [] (running 2 false 4 [0x21]) ∧ inv ((0x21 : Word).setWidth 8) = .unrecognized ∧
      (running 2 false 4 [0x21]).modeL = false) ∧
    (consumeReady 2 0x75 [] { running 2 false 4 [0x75] with k := 3 } ∧
      room 3 { running 2 false 4 [0x75] with k := 3 }) ∧
    consumeReady 2 0x75 [] (full { running 2 false 4 [0x75] with k := 3 }) ∧
      ¬ room 3 (full { running 2 false 4 [0x75] with k := 3 }) :=
  ⟨⟨⟨rfl, rfl, by decide, rfl⟩, by decide⟩, ⟨⟨rfl, rfl, by decide, rfl⟩, by decide, rfl⟩,
    ⟨⟨rfl, rfl, by decide, rfl⟩, empty_has_room (by decide) rfl⟩, ⟨rfl, rfl, by decide, rfl⟩, full_has_no_room (by decide)⟩

/-- A PAD with K = 2, and the final step with K = 3, with the room each needs. -/
theorem witness_Base64DecodeEndOfData :
    (consumeReady 2 0x3D [] { running 2 false 4 [0x3D] with k := 2 } ∧ (0x3D : Word).setWidth 8 = 0x3D#8 ∧
      room 1 { running 2 false 4 [0x3D] with k := 2 }) ∧
    finalReady 2 { consumed 3 (running 2 true 3 []) with k := 3 } ∧
      room 2 { consumed 3 (running 2 true 3 []) with k := 3 } :=
  ⟨⟨⟨rfl, rfl, by decide, rfl⟩, by decide, empty_has_room (by decide) rfl⟩, ⟨rfl, rfl, rfl⟩,
    empty_has_room (by decide) rfl⟩

theorem witness_Base64RejectRecordsTheError :
    consumeReady 2 0x21 [] (running 2 true 4 [0x21]) ∧ (running 2 true 4 [0x21]).modeL = true ∧
    inv ((0x21 : Word).setWidth 8) = .unrecognized := ⟨⟨rfl, rfl, by decide, rfl⟩, rfl, by decide⟩

/-- Each clause at both ends of its range. -/
theorem witness_Utf8DecodeLeads :
    ((∀ c ∈ ([0x00, 0x7F] : List Byte), c ≤ 0x7F) ∧ (∀ c ∈ ([0xC0, 0xDF] : List Byte), 0xC0 ≤ c ∧ c ≤ 0xDF) ∧
      (∀ c ∈ ([0xE0, 0xEF] : List Byte), 0xE0 ≤ c ∧ c ≤ 0xEF) ∧ ∀ c ∈ ([0xF0, 0xF7] : List Byte), 0xF0 ≤ c ∧ c ≤ 0xF7) ∧
    (consumeReady 3 0x7F [] (running 3 true 9 [0x7F]) ∧ (running 3 true 9 [0x7F]).need = 0 ∧
      room 1 (running 3 true 9 [0x7F])) ∧
    consumeReady 3 0xDF [] (running 3 false 9 [0xDF]) ∧ consumeReady 3 0xE0 [] (running 3 false 9 [0xE0]) ∧
    consumeReady 3 0xF7 [] (running 3 false 9 [0xF7]) :=
  ⟨by decide, ⟨⟨rfl, rfl, by decide, rfl⟩, rfl, empty_has_room (by decide) rfl⟩, ⟨rfl, rfl, by decide, rfl⟩,
    ⟨rfl, rfl, by decide, rfl⟩, ⟨rfl, rfl, by decide, rfl⟩⟩

/-- NEED = 3, NEED = 2, and NEED = 1 with room. -/
theorem witness_Utf8DecodeContinuation :
    consumeReady 3 0x9F [] { running 3 true 9 [0x9F] with need := 3 } ∧
    consumeReady 3 0x41 [] { running 3 true 9 [0x41] with need := 2, acc := 0xF } ∧
    consumeReady 3 0xBF [] { running 3 true 9 [0xBF] with need := 1, acc := 0x7FFF } ∧
    room 1 { running 3 true 9 [0xBF] with need := 1, acc := 0x7FFF } :=
  ⟨⟨rfl, rfl, by decide, rfl⟩, ⟨rfl, rfl, by decide, rfl⟩, ⟨rfl, rfl, by decide, rfl⟩, empty_has_room (by decide) rfl⟩

/-- Both ranges at both ends, in both modes. -/
theorem witness_Utf8InvalidLead :
    (consumeReady 3 0x80 [] (running 3 true 9 [0x80]) ∧ (running 3 true 9 [0x80]).modeL = true) ∧
    (consumeReady 3 0xF8 [] (running 3 false 9 [0xF8]) ∧ (running 3 false 9 [0xF8]).modeL = false) ∧
    (∀ c ∈ ([0x80, 0xBF, 0xF8, 0xFF] : List Byte), (0x80 ≤ c ∧ c ≤ 0xBF) ∨ 0xF8 ≤ c) :=
  ⟨⟨⟨rfl, rfl, by decide, rfl⟩, rfl⟩, ⟨⟨rfl, rfl, by decide, rfl⟩, rfl⟩, by decide⟩

/-- NEED = 0, and NEED > 0 in each mode. -/
theorem witness_Utf8DecodeFinal :
    finalReady 3 (consumed 1 (running 3 true 1 [])) ∧
    (finalReady 3 { consumed 1 (running 3 true 1 []) with need := 2 } ∧
      State.need { consumed 1 (running 3 true 1 []) with need := 2 } ≠ 0) ∧
    finalReady 3 { consumed 1 (running 3 false 1 []) with need := 1 } :=
  ⟨⟨rfl, rfl, rfl⟩, ⟨⟨rfl, rfl, rfl⟩, by decide⟩, rfl, rfl, rfl⟩

/-- The upper or lower end of each range, with room for four; and the final step. -/
theorem witness_Utf8EncodeSteps :
    ((0x7F : Word) ≤ 0x7F ∧ ((0x80 : Word) ≤ 0x7FF ∧ (0x7FF : Word) ≤ 0x7FF) ∧
      ((0x800 : Word) ≤ 0x800 ∧ (0x800 : Word) ≤ 0xFFFF) ∧ (0x10000 : Word) ≤ 0xFFFFFFFF) ∧
    (consumeReady 4 0x7F [] (running 4 false 1 [0x7F]) ∧ room 1 (running 4 false 1 [0x7F])) ∧
    (consumeReady 4 0x7FF [] (running 4 false 1 [0x7FF]) ∧ room 2 (running 4 false 1 [0x7FF])) ∧
    (consumeReady 4 0x800 [] (running 4 false 1 [0x800]) ∧ room 3 (running 4 false 1 [0x800])) ∧
    (consumeReady 4 0xFFFFFFFF [] (running 4 false 1 [0xFFFFFFFF]) ∧ room 4 (running 4 false 1 [0xFFFFFFFF])) ∧
    finalReady 4 (running 4 false 0 []) :=
  ⟨by decide, ⟨⟨rfl, rfl, by decide, rfl⟩, empty_has_room (by decide) rfl⟩,
    ⟨⟨rfl, rfl, by decide, rfl⟩, empty_has_room (by decide) rfl⟩,
    ⟨⟨rfl, rfl, by decide, rfl⟩, empty_has_room (by decide) rfl⟩,
    ⟨⟨rfl, rfl, by decide, rfl⟩, empty_has_room (by decide) rfl⟩, rfl, rfl, rfl⟩

/-- A turn that emits, from a state within the capacity of OUTQ, and changes the state. -/
theorem witness_EmissionIsAllOrNothing :
    ∃ t, engineTurn (running 4 false 1 [0x41]) = .next t ∧ t ≠ running 4 false 1 [0x41] ∧
      (running 4 false 1 [0x41]).outq.length ≤ Config.outDepth :=
  ⟨_, turn_consumes (by decide) (by decide) rfl rfl (by decide) rfl rfl, by decide, Nat.zero_le _⟩

/-- P2 after its third push, the first two bytes consumed. -/
def working : State := { consumed 2 (running 3 true 4 [0xAC]) with acc := 0x82, need := 1 }

/-- A block at work meets the invariant. -/
theorem working_inv : Inv working :=
  { queues := ⟨inDepth_range.1, Nat.zero_le _, rfl, by decide, fun h => absurd h (by decide)⟩
    control := ⟨fun _ => ⟨.u8dec, rfl⟩, fun _ => rfl, fun _ => rfl, fun _ => ⟨rfl, rfl⟩, fun h => absurd h (by decide)⟩
    record := ⟨fun _ => ⟨rfl, rfl, rfl⟩, fun _ => rfl, fun h => absurd h (by decide), fun h => absurd h (by decide),
      fun h => absurd h (by decide), fun h => absurd h (by decide), fun h => absurd h (by decide),
      fun h => absurd h (by decide)⟩
    datapath := ⟨fun _ h => absurd h (by decide), fun _ h => absurd h (by decide),
      fun _ _ => ⟨fun h => absurd h (by decide), fun _ => by decide⟩, fun _ h => absurd h (by decide), fun _ _ => rfl,
      fun _ h => absurd h (by decide), fun h => absurd h (by decide)⟩
    output := ⟨fun _ h => absurd h List.not_mem_nil, fun _ _ h => absurd h List.not_mem_nil⟩ }

/-- The same block before its third push: an empty INQ, so IN_READY = 1. -/
def waiting : State := { consumed 2 (running 3 true 4 []) with acc := 0x82, need := 1 }

theorem waiting_inv : Inv waiting :=
  { queues := ⟨Nat.zero_le _, Nat.zero_le _, rfl, by decide, fun h => absurd h (by decide)⟩
    control := working_inv.control.casesOn fun a b c d e => ⟨a, b, c, d, e⟩
    record := working_inv.record.casesOn fun a b c d e f g h => ⟨a, b, c, d, e, f, g, h⟩
    datapath := working_inv.datapath.casesOn fun a b c d e f g => ⟨a, b, c, d, e, f, g⟩
    output := ⟨fun _ h => absurd h List.not_mem_nil, fun _ _ h => absurd h List.not_mem_nil⟩ }

/-- The block of P2, done, its output not yet read. -/
theorem afterP2_inv : Inv afterP2 :=
  { queues := ⟨Nat.zero_le _, Nat.le_trans (by decide : 1 ≤ 4) outDepth_range.1, rfl, by decide, fun _ => rfl⟩
    control := ⟨fun h => absurd rfl h, fun h => absurd rfl h, fun h => absurd rfl h, fun h => absurd rfl h,
      fun h => absurd h (by decide)⟩
    record := ⟨fun h => absurd h (by decide), fun h => absurd h (by decide), fun _ => ⟨rfl, rfl⟩,
      fun h => absurd h (by decide), fun h => absurd h (by decide), fun h => absurd h (by decide),
      fun h => absurd h (by decide), fun h => absurd h (by decide)⟩
    datapath := ⟨fun h => absurd h (by decide), fun h => absurd h (by decide), fun h => absurd h (by decide),
      fun h => absurd rfl h, fun h => absurd rfl h, fun h => absurd rfl h, fun h => absurd h (by decide)⟩
    output := ⟨by simp [afterP2], fun h => absurd rfl h⟩ }

theorem witness_EngineMakesProgress :
    ∃ s t, s.phase ≠ .idle ∧ engineTurn s = .next t ∧ Inv s ∧ s.inq ≠ [] ∧ room 4 s :=
  ⟨_, _, by decide, turn_consumes (by decide) (by decide) rfl rfl (by decide) rfl rfl, working_inv, by decide,
    empty_has_room (by decide) rfl⟩

theorem witness_StepRunsTheDecodedInstruction :
    (before (write 0x64 0x4D) (running 1 false 2 [])).pending = [.host (.bus 0x64 0x4D)] ∧
    decodeTableWord 40 0x4D64 = some (.wrInData 0x24 0x4D) := by decide

theorem witness_StepGivesTheEngineItsTurn :
    (before .engine (running 1 false 2 [0x4D])).pending = [.engine] ∧ (running 1 false 2 [0x4D]).pending = [] := by
  decide

theorem witness_ResetSetsEveryField : (before .reset afterP2).pending = [.reset] := rfl

theorem witness_ReadsAfterReset :
    before .engine State.reset = { State.reset with pending := [.engine] } := rfl

theorem witness_StepKeepsTheInvariant : ∃ s t, Inv s ∧ step s = .next t ∧ s ≠ t :=
  ⟨_, _, working_inv, turn_consumes (by decide) (by decide) rfl rfl (by decide) rfl rfl, by decide⟩

theorem witness_StepNeverStops : ∃ s, Inv s ∧ s.pending = [.engine] := ⟨_, inv_withPending [.engine] working_inv, rfl⟩

/-- U8ENC over the one code point 0x41: push, one consume step, the final step. -/
def u8encStarted : State := { running 4 false 1 [] with pending := [pushEvent 0x41, .engine, .engine], pushed := 0 }

theorem u8enc_run : ∃ t, OpRun u8encStarted [0x41] [0x41] t ∧ t.phase = .idle ∧ t.done = true := by
  have hr : State.inReady { u8encStarted with pending := [.engine, .engine] } = true := accepts (by decide) (by decide) rfl
  have h1 : step u8encStarted = .next { running 4 false 1 [0x41] with pending := [.engine, .engine] } := by
    show exec (.wrInData 0x24 0x41) { u8encStarted with pending := [.engine, .engine] } = _
    simp only [exec, execWrInData, hr, if_true]; rfl
  have h2 : step { running 4 false 1 [0x41] with pending := [.engine, .engine] } =
      .next { consumed 1 (running 4 false 1 []) with outq := [0x41], outCount := 1, pending := [.engine] } :=
    turn_consumes (s := { running 4 false 1 [0x41] with pending := [.engine] }) (by decide) (by decide) rfl rfl
      (by decide) rfl rfl
  have h3 : step { consumed 1 (running 4 false 1 []) with outq := [0x41], outCount := 1, pending := [.engine] } =
      .next { consumed 1 (running 4 false 1 []) with outq := [0x41], outCount := 1, phase := .idle, done := true } := by
    show engineTurn { consumed 1 (running 4 false 1 []) with outq := [0x41], outCount := 1, pending := [] } = _
    rw [engineTurn_final ⟨by decide, rfl, 0, rfl, hasRoom_zero _⟩]; rfl
  exact ⟨_, .next (.next (.next .start (by decide) h1) (by decide) h2) (by decide) h3, rfl, rfl⟩

theorem witness_OperationOutcome :
    ∃ s0 t x y, startsCodec (.u8enc 0x04) = some (.u8enc, false) ∧
      exec (.u8enc 0x04) { State.reset with inLen := 1, pending := [pushEvent 0x41, .engine, .engine] } = .next s0 ∧
      OpRun s0 x y t ∧ t.phase = .idle ∧ t.done = true := by
  obtain ⟨t, hrun, hidle, hdone⟩ := u8enc_run
  exact ⟨u8encStarted, t, _, _, by decide, rfl, hrun, hidle, hdone⟩

theorem witness_ProtocolCompletes :
    startsCodec (.b64decReject 0x12) = some (.b64dec, true) ∧ (1 : Word).toNat = [0x54#32].length ∧
    (exec (.b64decReject 0x12) { State.reset with inLen := 1, pending := protocolEvents [0x54] } =
      .next { running 2 true 1 [] with pending := protocolEvents [0x54] }) := ⟨rfl, rfl, rfl⟩

/-- A start, a drain by PAD, a completion, an ABORT and a reset. -/
theorem witness_PhaseTransitions :
    (∃ t, step (before (write 0x48 1) State.reset) = .next t ∧ t.phase ≠ State.reset.phase) ∧
    (∃ t, step (before .engine (running 2 false 4 [0x3D])) = .next t ∧ t.phase = .drain) ∧
    (∃ t, step (before .engine (running 2 false 0 [])) = .next t ∧ t.phase = .idle) ∧
    (∃ t, step (before (write 0x48 0xF) (running 2 false 4 [])) = .next t ∧ t.phase = .idle) ∧
    ∃ t, step (before .reset (running 2 false 4 [])) = .next t ∧ t.phase = .idle :=
  ⟨⟨_, rfl, by decide⟩,
    ⟨_, turn_consumes (s := running 2 false 4 [0x3D]) (by decide) (by decide) rfl rfl (by decide) rfl rfl, rfl⟩,
    ⟨_, turn_finishes (s := running 2 false 0 []) (by decide) rfl rfl (by decide) rfl rfl, rfl⟩, ⟨_, rfl, rfl⟩, _, rfl, rfl⟩

/-- Each of the four protocol errors, and PERR cleared. -/
theorem witness_PerrHasFourCauses :
    (∃ t, step (before (write 0x64 1) State.reset) = .next t ∧ t.perr = true) ∧
    (∃ t, step (before (write 0x28 0) State.reset) = .next t ∧ t.perr = true) ∧
    (∃ t, step (before (write 0x4C 7) (running 1 false 3 [])) = .next t ∧ t.perr = true) ∧
    (∃ t, step (before (write 0x48 7) (running 1 false 3 [])) = .next t ∧ t.perr = true) ∧
    ∃ t, step (before (write 0x50 0x20) { State.reset with perr := true }) = .next t ∧ t.perr = false :=
  ⟨⟨_, rfl, rfl⟩, ⟨_, rfl, rfl⟩, ⟨_, rfl, rfl⟩, ⟨_, rfl, rfl⟩, _, rfl, rfl⟩

/-- DONE rises by completion and by an illegal opcode, and falls by a STATUS write and by a start. -/
theorem witness_DoneHasTwoCauses :
    (∃ t, step (running 2 false 0 []) = .next t ∧ (running 2 false 0 []).done = false ∧ t.done = true) ∧
    (∃ t, step (before (write 0x48 7) State.reset) = .next t ∧ t.done = true) ∧
    (∃ t, step (before (write 0x50 2) afterP2) = .next t ∧ afterP2.done = true ∧ t.done = false) ∧
    ∃ t, step (before (write 0x48 1) afterP2) = .next t ∧ t.done = false :=
  ⟨⟨_, turn_finishes (by decide) rfl rfl (by decide) rfl rfl, rfl, rfl⟩, ⟨_, rfl, rfl⟩, ⟨_, rfl, rfl, rfl⟩, _, rfl, rfl⟩

theorem witness_ControlRegistersHaveOneWriter :
    (∃ t, step (before (write 0x44 1) State.reset) = .next t ∧ t.irqEn = true) ∧
    (∃ t, step (before (write 0x4C 7) State.reset) = .next t ∧ t.inLen = 7) ∧
    ∃ t, step (before (write 0x48 0x13) State.reset) = .next t ∧ t.cmdOpcode = 3 ∧ t.cmdMode = true :=
  ⟨⟨_, rfl, rfl⟩, ⟨_, rfl, rfl⟩, _, rfl, rfl, rfl⟩

/-- A CMD write while busy is not acted on. -/
theorem witness_LatchesHoldDuringAnOperation :
    (∃ t, step (before (write 0x48 4) (running 1 false 3 [])) = .next t) ∧
    (∀ d, ¬ actingCommandNext (before (write 0x48 4) (running 1 false 3 [])) d) ∧
    ¬ resetNext (before (write 0x48 4) (running 1 false 3 [])) := by
  refine ⟨⟨_, rfl⟩, ?_, ?_⟩
  · rintro d ⟨⟨w, rest, hw, hd⟩, -, h⟩
    have hw : [write 0x48 4] = Event.host w :: rest := hw
    cases hw
    cases (show some (4 : Word) = some d from hd)
    revert h; decide
  · rintro ⟨rest, h⟩
    have h : [write 0x48 4] = Event.reset :: rest := h
    cases h

/-- A push is no command. -/
theorem witness_HostTransactionsLeaveTheDatapath :
    (before (write 0x64 1) (running 1 false 3 [])).pending = [.host (.bus 0x64 1)] ∧
    (∃ t, step (before (write 0x64 1) (running 1 false 3 [])) = .next t) ∧
    ∀ d, ¬ actingCommandNext (before (write 0x64 1) (running 1 false 3 [])) d := by
  refine ⟨rfl, ⟨_, rfl⟩, ?_⟩
  rintro d ⟨⟨w, rest, hw, hd⟩, -⟩
  have hw : [write 0x64 1] = Event.host w :: rest := hw
  cases hw
  cases (show (none : Option Word) = some d from hd)

/-- A push, a pop, an engine step and a command. -/
theorem witness_QueuesMoveOneWay :
    (∃ t, step (before (write 0x64 1) (consumed 1 (running 1 false 3 []))) = .next t ∧ t.inq = [1]) ∧
    (∃ t, step (before (write 0x28 0) afterP2) = .next t ∧ t.outq = []) ∧
    (∃ t, step (running 4 false 1 [0x41]) = .next t ∧ t.inq = [] ∧ t.outq = [0x41]) ∧
    ∃ t, step (before (write 0x48 0xF) (running 4 false 1 [0x41])) = .next t ∧ t.inq = [] := by
  have h : State.inReady { before (write 0x64 1) (consumed 1 (running 1 false 3 [])) with pending := [] } = true :=
    accepts (by decide) (by decide) rfl
  refine ⟨⟨pushInput 1 { before (write 0x64 1) (consumed 1 (running 1 false 3 [])) with pending := [] }, ?_, rfl⟩,
    ⟨_, rfl, rfl⟩, ⟨_, turn_consumes (by decide) (by decide) rfl rfl (by decide) rfl rfl, rfl, rfl⟩, _, rfl, rfl⟩
  · show exec (.wrInData 0x24 1) { before (write 0x64 1) (consumed 1 (running 1 false 3 [])) with pending := [] } = _
    simp only [exec, execWrInData, h, if_true]

theorem witness_FirstErrorWins :
    (∃ t, step (running 3 true 1 [0x80]) = .next t ∧ t.errCode = .u8Lead) ∧
    (∀ d, ¬ actingCommandNext (running 3 true 1 [0x80]) d) ∧ ¬ resetNext (running 3 true 1 [0x80]) := by
  refine ⟨⟨_, turn_consumes (by decide) (by decide) rfl rfl (by decide) rfl rfl, rfl⟩, ?_, ?_⟩
  · rintro d ⟨⟨w, rest, hw, -⟩, -⟩
    have hw : [] = Event.host w :: rest := hw
    cases hw
  · rintro ⟨rest, h⟩
    have h : [] = Event.reset :: rest := h
    cases h

/-- IRQ rises by completion, by an illegal opcode, and by a CTRL write with DONE = 1. -/
theorem witness_IrqRisesForThreeReasons :
    (∃ t, step { running 2 false 0 [] with irqEn := true } = .next t ∧
      State.irq { running 2 false 0 [] with irqEn := true } = false ∧ t.irq = true) ∧
    (∃ t, step (before (write 0x48 7) { State.reset with irqEn := true }) = .next t ∧ t.irq = true) ∧
    ∃ t, step (before (write 0x44 1) afterP2) = .next t ∧ afterP2.irq = false ∧ t.irq = true :=
  ⟨⟨_, turn_finishes (by decide) rfl rfl (by decide) rfl rfl, rfl, rfl⟩, ⟨_, rfl, rfl⟩, _, rfl, rfl, rfl⟩

/-- A turn with OUT_VALID = 1 and DONE = 1, and a turn with IN_READY = 1. -/
theorem witness_ReadyAndValidAreStable :
    (Inv (before .engine afterP2) ∧ engineMoves (before .engine afterP2) = true ∧
      (∃ t, step (before .engine afterP2) = .next t) ∧ (before .engine afterP2).outValid = true ∧ afterP2.done = true) ∧
    Inv waiting ∧ engineMoves waiting = true ∧ (∃ t, step waiting = .next t) ∧ waiting.inReady = true :=
  ⟨⟨inv_withPending [.engine] afterP2_inv, rfl, ⟨_, rfl⟩, rfl, rfl⟩, waiting_inv, rfl, ⟨_, rfl⟩,
    accepts (by decide) (by decide) rfl⟩

theorem witness_Utf8RoundTrip : ∀ cp ∈ ([0x41, 0x20AC, 0x1F600, 0x1FFFFF] : List Word), cp ≤ 0x1FFFFF := by simp

theorem witness_Base64EncodeShape :
    [0x54, 0x51, 0x3D, 0x3D] = (b64eFunction [0x4D]).emitted := by decide -- L2.1

theorem witness_AlphabetAndItsInverse : inv 0x2F ≠ .unrecognized := by decide

theorem witness_WindowOffsets : Config.base + 64 < Config.base ∨ Config.base + 64 ≤ Config.base + 64 := .inr (Nat.le_refl _)

end Sys2Proof.Tests
end

/-! PROOF. The host interface (40_host_interface.md): which words carry each transaction and command (R80, R83), what the
registers answer, and what a command does while the block is idle or busy (R89). -/

namespace Sys2Proof

/-! ### The words of a row -/

/-- A transaction word is read as the read rule of the register it addresses (R83). -/
theorem decode_bus_read {t : BitVec 7} (d : Word) (h : t.getLsbD 6 = false) :
    decode (.bus t d) = readFrom (regAt (t.extractLsb' 0 6)) (t.extractLsb' 0 6) := by
  simp only [decode, decodeBus, h, Bool.false_eq_true, if_false]

/-- A transaction word with WE = 1 is read as the write rule of the register it addresses (R83). -/
theorem decode_bus_write {t : BitVec 7} (d : Word) (h : t.getLsbD 6 = true) :
    decode (.bus t d) = writeTo (regAt (t.extractLsb' 0 6)) (t.extractLsb' 0 6) d := by
  simp only [decode, decodeBus, h, if_true]

/-- Bits 4:0 of a command word are MODE and OPCODE (R62). -/
theorem commandBits_eq (d : Word) : d.extractLsb' 0 5 = BitVec.ofBool (modeOf d) ++ opcodeOf d := by
  refine BitVec.eq_of_getLsbD_eq fun i hi => ?_
  rw [opcodeOf, modeOf, BitVec.getLsbD_append, BitVec.getLsbD_extractLsb', BitVec.getLsbD_extractLsb']
  obtain h | rfl : i < 4 ∨ i = 4 := by omega
  · simp [h, hi]
  · simp

/-- Under the mask 0x0F the bits of a command word are its OPCODE, whatever its MODE (R65). -/
theorem opcode_of_maskedBits : ∀ (m : Bool) (op pattern : BitVec 4),
    (BitVec.ofBool m ++ op) &&& 0x0F#5 = pattern.setWidth 5 → op = pattern := by decide

/-- The mask 0x1F keeps OPCODE and MODE (R64). -/
theorem fields_of_maskedBits : ∀ (m m' : Bool) (op op' : BitVec 4),
    (BitVec.ofBool m ++ op) &&& 0x1F#5 = BitVec.ofBool m' ++ op' → op = op' ∧ m = m' := by decide

end Sys2Proof

namespace Sys2Proof.Machine

/-- A read row holds when every T of the row is a read of the row's register. -/
theorem readRow_of_register {pattern mask : BitVec 7} (r : Reg)
    (h : ∀ t : BitVec 7, t &&& mask = pattern → t.getLsbD 6 = false ∧ regAt (t.extractLsb' 0 6) = r) :
    readRow pattern mask (readFrom r) := by
  intro t d ht
  obtain ⟨hwe, hr⟩ := h t ht
  rw [decode_bus_read d hwe, hr]

/-- A write row holds when every T of the row is a write of the row's register. -/
theorem writeRow_of_register {pattern mask : BitVec 7} (r : Reg)
    (h : ∀ t : BitVec 7, t &&& mask = pattern → t.getLsbD 6 = true ∧ regAt (t.extractLsb' 0 6) = r) :
    writeRow pattern mask (writeTo r) := by
  intro t d ht
  obtain ⟨hwe, hr⟩ := h t ht
  rw [decode_bus_write d hwe, hr]

/-- A command row whose MODE is ignored (mask 0x0F) holds when its OPCODE alone gives the command. -/
theorem commandRow_of_opcode {c : Word → Instr} (op : BitVec 4) (h : ∀ d, opcodeOf d = op → decode (.cmd d) = c d) :
    commandRow (op.setWidth 5) 0x0F c := by
  intro d hd
  rw [commandBits_eq] at hd
  exact h d (opcode_of_maskedBits _ _ _ hd)

/-- A command row that MODE selects (mask 0x1F) holds when OPCODE and MODE give the command. -/
theorem commandRow_of_mode {c : Word → Instr} (op : BitVec 4) (m : Bool)
    (h : ∀ d, opcodeOf d = op → modeOf d = m → decode (.cmd d) = c d) :
    commandRow (BitVec.ofBool m ++ op) 0x1F c := by
  intro d hd
  rw [commandBits_eq] at hd
  obtain ⟨ho, hm⟩ := fields_of_maskedBits _ _ _ _ hd
  exact h d ho hm

/-! ### The computed flags and the words a read returns -/

variable (s : State)

theorem busy_iff : s.busy = true ↔ s.phase ≠ .idle := bne_iff_ne

theorem err_iff : s.err = true ↔ s.errCode ≠ .none := bne_iff_ne

theorem inReady_iff :
    s.inReady = true ↔ s.phase ≠ .idle ∧ s.pushed < s.lenL ∧ s.inq.length < Config.inDepth := by
  simp only [State.inReady, Bool.and_eq_true, decide_eq_true_eq, busy_iff, and_assoc]

theorem outValid_iff : s.outValid = true ↔ 0 < s.outq.length := by
  cases h : s.outq <;> simp [State.outValid, h]

/-- The last bit appended to a word is its bit 0. -/
theorem getLsbD_append_bit_zero {w : Nat} (x : BitVec w) (b : Bool) : (x ++ bit b).getLsbD 0 = b := by
  rw [BitVec.getLsbD_append, if_pos Nat.zero_lt_one, bit, BitVec.getLsbD_ofBool]
  simp

/-- Appending a bit moves the others up by one. -/
theorem getLsbD_append_bit_succ {w : Nat} (x : BitVec w) (b : Bool) (n : Nat) :
    (x ++ bit b).getLsbD (n + 1) = x.getLsbD n := by
  simp [BitVec.getLsbD_append]

/-- The STATUS word bit by bit (R20, R92). -/
theorem statusWord_bits :
    s.statusWord.getLsbD 0 = s.busy ∧ s.statusWord.getLsbD 1 = s.done ∧ s.statusWord.getLsbD 2 = s.err ∧
    s.statusWord.getLsbD 3 = s.inReady ∧ s.statusWord.getLsbD 4 = s.outValid ∧ s.statusWord.getLsbD 5 = s.perr ∧
    s.statusWord.getLsbD 6 = s.tail1 ∧ s.statusWord.getLsbD 7 = s.ovf ∧ s.statusWord.getLsbD 8 = s.lstop ∧
    ∀ n, s.statusWord.getLsbD (n + 9) = false := by
  unfold State.statusWord
  simp only [getLsbD_append_bit_zero, getLsbD_append_bit_succ, BitVec.getLsbD_zero, implies_true, and_self]

theorem ctrlWord_eq : s.ctrlWord = if s.irqEn then 1 else 0 := by
  unfold State.ctrlWord
  cases s.irqEn <;> rfl

/-- MODE above OPCODE, as a number (R88). -/
theorem modeOpcode_word : ∀ (m : Bool) (op : BitVec 4),
    0#27 ++ bit m ++ op = BitVec.ofNat 32 ((if m then 16 else 0) + op.toNat) := by decide

theorem errCodeWord_eq : s.errCodeWord =
    match s.errCode with | .none => 0 | .illegalCmd => 1 | .u8Trunc => 2 | .u8Lead => 3 | .b64Char => 4 := by
  unfold State.errCodeWord
  cases s.errCode <;> rfl

/-! ### What a transaction or command does -/

/-- The W1C fields by cases on the written ones (R93). -/
theorem acknowledge_eq (clearDone clearPerr : Bool) : acknowledge clearDone clearPerr s =
    { s with done := if clearDone then false else s.done, perr := if clearPerr then false else s.perr } := by
  cases clearDone <;> cases clearPerr <;> simp [acknowledge]

variable {s}

/-- An input element offered while IN_READY is 0 is dropped (R103). -/
theorem wrInData_dropped (a : BitVec 6) (d : Word) (h : s.inReady ≠ true) :
    exec (.wrInData a d) s = .next { s with perr := true } :=
  congrArg Host.Outcome.next (if_neg h)

theorem issueCodec_of_idle (op : BitVec 4) (m : Bool) (h : s.phase = .idle) : issueCodec op m s = start op m s :=
  ((issueCodec_eq s op m).resolve_right fun busy => busy.1 h).2

theorem issueCodec_of_busy (op : BitVec 4) (m : Bool) (h : s.phase ≠ .idle) :
    issueCodec op m s = { s with perr := true } :=
  ((issueCodec_eq s op m).resolve_left fun idle => h idle.1).2

/-- What an illegal command leaves in an idle block, PHASE among it (R119). -/
theorem issueIllegal_of_idle (op : BitVec 4) (m : Bool) (h : s.phase = .idle) :
    issueIllegal op m s = { s with
      cmdOpcode := op, cmdMode := m, opL := op, modeL := m, lenL := 0,
      pushed := 0, inCount := 0, outCount := 0, inq := [], outq := [], acc := 0, k := 0, need := 0, leadPos := 0,
      errPos := 0, tail1 := false, ovf := false, lstop := false,
      done := true, errCode := .illegalCmd } := by
  rw [((issueIllegal_eq s op m).resolve_right fun busy => busy.1 h).2, illegalCommand, ← h]
  rfl

theorem issueIllegal_of_busy (op : BitVec 4) (m : Bool) (h : s.phase ≠ .idle) :
    issueIllegal op m s = { s with perr := true } :=
  ((issueIllegal_eq s op m).resolve_left fun idle => h idle.1).2

/-! ### WR CMD, in the order of R89 -/

variable (a : BitVec 6) {d : Word}

theorem wrCmd_nop (h : opcodeOf d = 0x0) : exec (.wrCmd a d) s = .next s := if_pos h

theorem wrCmd_abort (h : opcodeOf d = 0xF) : exec (.wrCmd a d) s = .next (abortOperation (modeOf d) s) := by
  simp [exec, execWrCmd, h]

theorem wrCmd_busy (h0 : opcodeOf d ≠ 0x0) (hF : opcodeOf d ≠ 0xF) (hp : s.phase ≠ .idle) :
    exec (.wrCmd a d) s = .next { s with perr := true } := by
  simp only [exec, execWrCmd, if_neg h0, if_neg hF, if_pos hp, busyCommand, raiseProtocolError]

/-- An opcode other than NOP and ABORT is one of the codecs' or illegal, by its number (R63). -/
theorem opcode_classes : ∀ op : BitVec 4,
    (1 ≤ op.toNat → op.toNat ≤ 4 → op ≠ 0x0 ∧ op ≠ 0xF ∧ op ≤ 0x4) ∧
    (5 ≤ op.toNat → op.toNat ≤ 14 → op ≠ 0x0 ∧ op ≠ 0xF ∧ ¬ op ≤ 0x4) := by decide

theorem wrCmd_start (h1 : 1 ≤ (opcodeOf d).toNat) (h4 : (opcodeOf d).toNat ≤ 4) (hp : s.phase = .idle) :
    exec (.wrCmd a d) s = .next (start (opcodeOf d) (modeOf d) s) := by
  obtain ⟨h0, hF, hle⟩ := (opcode_classes (opcodeOf d)).1 h1 h4
  simp only [exec, execWrCmd, if_neg h0, if_neg hF, if_neg (not_not_intro hp), if_pos hle]

theorem wrCmd_illegal (h5 : 5 ≤ (opcodeOf d).toNat) (hE : (opcodeOf d).toNat ≤ 14) (hp : s.phase = .idle) :
    exec (.wrCmd a d) s = .next (illegalCommand (opcodeOf d) (modeOf d) s) := by
  obtain ⟨h0, hF, hle⟩ := (opcode_classes (opcodeOf d)).2 h5 hE
  simp only [exec, execWrCmd, if_neg h0, if_neg hF, if_neg (not_not_intro hp), if_neg hle]

end Sys2Proof.Machine

namespace Sys2Proof.Machine

/-! ### The statements -/

/-- Settles O8: the STATUS word bit by bit, with the computed flags spelled out. -/
theorem readStatusSnapshot : Obligations.ReadStatusSnapshot := by
  refine ⟨readRow_of_register .status (by decide), fun a s => ⟨s.statusWord, rfl, ?_⟩⟩
  obtain ⟨busy, done, err, inReady, outValid, perr, tail1, ovf, lstop, high⟩ := statusWord_bits s
  rw [busy, err, inReady, outValid]
  refine ⟨busy_iff s, done, err_iff s, inReady_iff s, outValid_iff s, perr, tail1, ovf, lstop, fun n hn => ?_⟩
  obtain ⟨k, rfl⟩ := Nat.exists_eq_add_of_le' hn
  exact high k

/-- Settles O16: a CMD write is the command its data decodes to, and R89's order gives its case. -/
theorem wrCmdIssuesTheCommand : Obligations.WrCmdIssuesTheCommand :=
  ⟨writeRow_of_register .cmd (by decide), fun a d s => ⟨execWrCmd_eq_command a d s, wrCmd_nop a, wrCmd_abort a,
    wrCmd_busy a, wrCmd_start a, wrCmd_illegal a⟩⟩

/-- Settles O6: each of the four answers is a constant word. -/
theorem readConstants : Obligations.ReadConstants :=
  ⟨⟨readRow_of_register .id (by decide), readRow_of_register .param (by decide),
    readRow_of_register .inData (by decide), readRow_of_register .reserved (by decide)⟩,
    fun _ _ => ⟨rfl, rfl, rfl, rfl⟩⟩

/-- Settles O7: the CTRL and CMD words as numbers, and IN_LEN itself. -/
theorem readControlRegisters : Obligations.ReadControlRegisters := by
  refine ⟨⟨readRow_of_register .ctrl (by decide), readRow_of_register .cmd (by decide),
    readRow_of_register .inLen (by decide)⟩, fun a s => ⟨?_, ?_, rfl⟩⟩
  · rw [← ctrlWord_eq]; rfl
  · rw [← modeOpcode_word]; rfl

/-- Settles O9: ERR_CODE by its code table, the other three as they stand. -/
theorem readResultRegisters : Obligations.ReadResultRegisters :=
  ⟨⟨readRow_of_register .errCode (by decide), readRow_of_register .errPos (by decide),
    readRow_of_register .inCount (by decide), readRow_of_register .outCount (by decide)⟩,
    fun _ s => ⟨congrArg (fun v => Host.Outcome.next (respond v s)) (errCodeWord_eq s), rfl, rfl, rfl⟩⟩

/-- Settles O10, by the two cases of OUTQ. -/
theorem readOutDataPops : Obligations.ReadOutDataPops := by
  refine ⟨readRow_of_register .outData (by decide), fun a s v rest h => ?_, fun a s h => ?_⟩
  · simp only [exec, execRdOutData, h, respond, popOutput, List.tail_cons]
  · simp only [exec, execRdOutData, h, respond, raiseProtocolError]

/-- Settles O11: IRQ is computed from the new IRQ_EN and the old DONE. -/
theorem writeControl : Obligations.WriteControl := by
  refine ⟨writeRow_of_register .ctrl (by decide), fun a d s => ⟨rfl, fun t h => ?_⟩⟩
  cases h
  rfl

/-- Settles O12, by PHASE. -/
theorem writeInLen : Obligations.WriteInLen :=
  ⟨writeRow_of_register .inLen (by decide), fun _ _ _ h => congrArg Host.Outcome.next (if_pos h),
    fun _ _ _ h => congrArg Host.Outcome.next (if_neg h)⟩

/-- Settles O13: WR STATUS is the acknowledgement of D[1] and D[5]. -/
theorem writeStatusAcknowledges : Obligations.WriteStatusAcknowledges :=
  ⟨writeRow_of_register .status (by decide), fun _ _ s => congrArg Host.Outcome.next (acknowledge_eq s _ _)⟩

/-- Settles O14, by IN_READY. -/
theorem writeInDataPushes : Obligations.WriteInDataPushes := by
  refine ⟨writeRow_of_register .inData (by decide), fun a d s hp hl hq => ?_, fun a d s h => ?_⟩
  · have ready : s.inReady = true := (inReady_iff s).mpr ⟨hp, hl, hq⟩
    exact congrArg Host.Outcome.next (if_pos ready)
  · exact wrInData_dropped a d (mt (inReady_iff s).mp h)

/-- Settles O15: none of the eight writes touches the state. -/
theorem readOnlyWritesIgnored : Obligations.ReadOnlyWritesIgnored :=
  ⟨⟨writeRow_of_register .id (by decide), writeRow_of_register .errCode (by decide),
    writeRow_of_register .errPos (by decide), writeRow_of_register .inCount (by decide),
    writeRow_of_register .outCount (by decide), writeRow_of_register .outData (by decide),
    writeRow_of_register .param (by decide), writeRow_of_register .reserved (by decide)⟩,
    fun _ _ _ => ⟨rfl, rfl, rfl, rfl, rfl, rfl, rfl, rfl⟩⟩

/-- Settles O17: an idle block takes every codec command to `start`, whose fields are R110's. -/
theorem codecCommandsStart : Obligations.CodecCommandsStart := by
  refine ⟨⟨commandRow_of_opcode 0x1 ?_, commandRow_of_mode 0x2 false ?_, commandRow_of_mode 0x2 true ?_,
    commandRow_of_mode 0x3 false ?_, commandRow_of_mode 0x3 true ?_, commandRow_of_opcode 0x4 ?_⟩,
    fun d s hidle => ?_⟩
  case refine_7 =>
    have starts (op : BitVec 4) (m : Bool) :
        (.next (issueCodec op m s) : Host.Outcome State Fault Refusal) = .next (start op m s) := by
      rw [issueCodec_of_idle op m hidle]
    exact ⟨starts 0x1 _, starts 0x2 _, starts 0x2 _, starts 0x3 _, starts 0x3 _, starts 0x4 _⟩
  all_goals
    intro d ho
    simp +contextual [decode, decodeCmd, ho]

/-- Settles O18. -/
theorem nopHasNoEffect : Obligations.NopHasNoEffect :=
  ⟨commandRow_of_opcode 0x0 fun d ho => by simp [decode, decodeCmd, ho], fun _ _ => rfl⟩

/-- Settles O19: ABORT does not look at PHASE, and its fields are R118's. -/
theorem abortFromEveryPhase : Obligations.AbortFromEveryPhase :=
  ⟨commandRow_of_opcode 0xF fun d ho => by simp [decode, decodeCmd, ho], fun _ _ => rfl⟩

/-- Settles O20: an idle block takes every illegal opcode to `illegalCommand`, which leaves it idle and so not ready. -/
theorem illegalCommandWhileIdle : Obligations.IllegalCommandWhileIdle := by
  refine ⟨⟨commandRow_of_opcode 0x5 ?_, commandRow_of_opcode 0x6 ?_, commandRow_of_opcode 0x7 ?_,
    commandRow_of_opcode 0x8 ?_, commandRow_of_opcode 0x9 ?_, commandRow_of_opcode 0xA ?_, commandRow_of_opcode 0xB ?_,
    commandRow_of_opcode 0xC ?_, commandRow_of_opcode 0xD ?_, commandRow_of_opcode 0xE ?_⟩,
    fun d s hidle => ⟨?_, fun op a e => ?_⟩⟩
  case refine_11 =>
    have verdict (op : BitVec 4) := congrArg (Host.Outcome.next (φ := Fault) (ρ := Refusal))
      (issueIllegal_of_idle op (modeOf d) hidle)
    exact ⟨verdict 0x5, verdict 0x6, verdict 0x7, verdict 0x8, verdict 0x9, verdict 0xA, verdict 0xB, verdict 0xC,
      verdict 0xD, verdict 0xE⟩
  case refine_12 => exact wrInData_dropped a e fun ready => ((inReady_iff _).mp ready).1 hidle
  all_goals
    intro d ho
    simp [decode, decodeCmd, ho]

/-- Settles O21: a busy block answers each of the sixteen commands, and the CMD write of one, with a protocol error. -/
theorem busyCommandIsIgnored : Obligations.BusyCommandIsIgnored := by
  intro d s hbusy
  refine ⟨?_, fun a h0 hF => wrCmd_busy a h0 hF hbusy⟩
  have codec (op : BitVec 4) (m : Bool) :
      (.next (issueCodec op m s) : Host.Outcome State Fault Refusal) = .next { s with perr := true } := by
    rw [issueCodec_of_busy op m hbusy]
  have illegal (op : BitVec 4) :
      (.next (issueIllegal op (modeOf d) s) : Host.Outcome State Fault Refusal) = .next { s with perr := true } := by
    rw [issueIllegal_of_busy op (modeOf d) hbusy]
  simp only [List.forall_mem_cons]
  exact ⟨codec 0x1 _, codec 0x2 _, codec 0x2 _, codec 0x3 _, codec 0x3 _, codec 0x4 _, illegal 0x5, illegal 0x6,
    illegal 0x7, illegal 0x8, illegal 0x9, illegal 0xA, illegal 0xB, illegal 0xC, illegal 0xD, illegal 0xE,
    List.forall_mem_nil _⟩

end Sys2Proof.Machine

/-! PROOF. Engine sequencing in DRAIN (41_engine.md): the two engine steps emit nothing, so OUTQ never holds them up. -/

namespace Sys2Proof.Machine

section
variable {s : State} (hdrain : s.phase = .drain)
include hdrain

/-- In DRAIN a consume step is enabled whenever an element is left and INQ has it, whatever OUTQ's room (R122, R125). -/
theorem consumeEnabled_of_drain {e : Word} {rest : List Word} (hlt : s.inCount < s.lenL) (hq : s.inq = e :: rest) :
    ConsumeEnabled s e := by
  have running : s.phase ≠ .idle := by simp [hdrain]
  have emitsNone : consumeCount e s = some 0 := if_pos hdrain
  exact ⟨running, hlt, by simp [hq], 0, emitsNone, hasRoom_zero s⟩

/-- In DRAIN the final step is enabled once all elements are consumed, whatever OUTQ's room (R123, R126). -/
theorem finalEnabled_of_drain (heq : s.inCount = s.lenL) : FinalEnabled s := by
  have running : s.phase ≠ .idle := by simp [hdrain]
  have emitsNone : finalCount s = some 0 := if_pos hdrain
  exact ⟨running, heq, 0, emitsNone, hasRoom_zero s⟩

/-- In DRAIN a consume step leaves the state as the pop left it (R125). -/
theorem consumeEffect_of_drain (e pos : Word) : consumeEffect e pos s = some s := if_pos hdrain

/-- In DRAIN the final step is `complete()` (R126). -/
theorem finalEffect_of_drain : finalEffect s = some (complete s) := if_pos hdrain

end

/-- Settles O23: in DRAIN both steps are enabled without regard to OUTQ; the consume step is the pop alone, and the final
step the completion alone. -/
theorem drainDiscardsAndCompletes : Obligations.DrainDiscardsAndCompletes := by
  refine fun s hdrain => ⟨fun e rest hlt hq => ?_, fun heq => ?_⟩
  · have hpop : (popInput s).phase = .drain := hdrain
    rw [engineTurn_consume (consumeEnabled_of_drain hdrain hlt hq), consumeEffect_of_drain hpop]
    simp only [engineResult, popInput, hq, List.tail_cons]
  · rw [engineTurn_final (finalEnabled_of_drain hdrain heq), finalEffect_of_drain hdrain]
    rfl

end Sys2Proof.Machine

/-! PROOF. The Base64 encoder's final step (42_base64_encode.md, R139 to R141): the sextets of a zero-padded group, and
what the step leaves in the state. -/

namespace Sys2Proof.Machine

/-! ### The sextets of a group of one or two leftover bytes (R75) -/

/-- A field that straddles the seam of an append takes its low bits from the right word and its high bits from the left. -/
theorem extractLsb'_append_straddle {v w start m n : Nat} (x : BitVec v) (y : BitVec w) (h : start + n = w) :
    (x ++ y).extractLsb' start (m + n) = x.extractLsb' 0 m ++ y.extractLsb' start n := by
  ext i hi
  have seam : start + i < w ↔ i < n := by omega
  have offset : start + i - w = i - n := by omega
  simp [BitVec.getLsbD_append, BitVec.getElem_append, seam, offset]

/-- One leftover byte: its upper six bits, and its lower two above four zeros. -/
theorem oneByteChars_eq (b0 : Byte) : oneByteChars b0 =
    [element (alph (b0.extractLsb' 2 6)), element (alph (b0.extractLsb' 0 2 ++ 0b0000#4)), 0x3D, 0x3D] := by
  have first : (b0 ++ 0#16).extractLsb' 18 6 = b0.extractLsb' 2 6 :=
    BitVec.extractLsb'_append_eq_of_le (by decide)
  have second : (b0 ++ 0#16).extractLsb' 12 6 = b0.extractLsb' 0 2 ++ 0b0000#4 :=
    extractLsb'_append_straddle (m := 2) (n := 4) b0 0#16 rfl
  simp only [oneByteChars, groupChar, first, second]
  rfl

/-- Two leftover bytes: the second sextet joins them, and the third is the end of the second byte above two zeros. -/
theorem twoByteChars_eq (b0 b1 : Byte) : twoByteChars b0 b1 =
    [element (alph (b0.extractLsb' 2 6)), element (alph (b0.extractLsb' 0 2 ++ b1.extractLsb' 4 4)),
      element (alph (b1.extractLsb' 0 4 ++ 0b00#2)), 0x3D] := by
  have first : (b0 ++ b1 ++ 0#8).extractLsb' 18 6 = b0.extractLsb' 2 6 :=
    (BitVec.extractLsb'_append_eq_of_le (by decide)).trans (BitVec.extractLsb'_append_eq_of_le (by decide))
  have second : (b0 ++ b1 ++ 0#8).extractLsb' 12 6 = b0.extractLsb' 0 2 ++ b1.extractLsb' 4 4 :=
    (BitVec.extractLsb'_append_eq_of_le (by decide)).trans
      (extractLsb'_append_straddle (m := 2) (n := 4) b0 b1 rfl)
  have third : (b0 ++ b1 ++ 0#8).extractLsb' 6 6 = b1.extractLsb' 0 4 ++ 0b00#2 := by
    rw [extractLsb'_append_straddle (m := 4) (n := 2) (b0 ++ b1) 0#8 rfl,
      BitVec.extractLsb'_append_eq_of_add_le (by decide)]
    rfl
  simp only [twoByteChars, groupChar, first, second, third]
  rfl

/-! ### The step -/

section
variable {s : State} (hready : finalReady 1 s)
include hready

/-- With all bytes consumed and room for what the step emits, the encoder's turn is `B64E_final()` (R123). -/
theorem engineTurn_b64eFinal {n : Nat} (hcount : b64eFinalCount s = some n) (hroom : hasRoom n s = true) :
    engineTurn s = engineResult (b64eFinal s) := by
  obtain ⟨hrun, hop, heq⟩ := hready
  have enabled : FinalEnabled s :=
    ⟨by simp [hrun], heq, n, by simp [finalCount, hrun, hop, codecOf, hcount], hroom⟩
  rw [engineTurn_final enabled]
  simp [finalEffect, hrun, hop, codecOf]

/-- A final step that emits the four characters `chars` of a partial group closes the group and completes, and does
nothing else (R140, R141). -/
theorem engineTurn_closing_group {chars : List Word} (hlen : chars.length = 4) (hcount : b64eFinalCount s = some 4)
    (heffect : b64eFinal s = some (complete (setGroup 0 0 (emitAll chars s)))) (hroom : room 4 s) :
    engineTurn s = .next { s with
      phase := .idle, done := true, acc := 0, k := 0, outCount := s.outCount + 4, outq := s.outq ++ chars } := by
  rw [engineTurn_b64eFinal hready hcount (hasRoom_of_le s hroom), heffect, emitAll_eq, hlen]
  rfl

end

/-- Settles O25, by the number of leftover bytes. -/
theorem base64EncodeFinal : Obligations.Base64EncodeFinal := by
  refine fun s hready => ⟨fun hk => ?none, fun hk hroom b0 h0 => ?one, fun hk hroom b0 b1 h0 h1 => ?two⟩
  case none =>
    rw [engineTurn_b64eFinal hready (n := 0) (by simp [b64eFinalCount, hk]) (hasRoom_zero s)]
    simp [b64eFinal, hk, engineResult, complete]
  case one =>
    rw [h0, ← oneByteChars_eq]
    exact engineTurn_closing_group hready rfl (by simp [b64eFinalCount, hk]) (by simp [b64eFinal, hk]) hroom
  case two =>
    rw [h0, h1, ← twoByteChars_eq]
    exact engineTurn_closing_group hready rfl (by simp [b64eFinalCount, hk]) (by simp [b64eFinal, hk]) hroom

end Sys2Proof.Machine

/-! PROOF. The Base64 decoder's end of data and reject mode (43_base64_decode.md, R146, R150 to R152): the turn the engine
takes when it decodes, and what closing the open group leaves in the state. -/

namespace Sys2Proof.Machine

/-! ### The flush -/

/-- `Flush()` field by field, by the number of sextets in the open group (R151). -/
theorem b64dFlush_eq (s : State) : b64dFlush s = { s with
    acc := 0, k := 0, tail1 := if s.k = 1 then true else s.tail1,
    outq := s.outq ++ (if s.k = 2 then [(s.acc.extractLsb' 4 8).setWidth 32] else if s.k = 3 then
      [(s.acc.extractLsb' 10 8).setWidth 32, (s.acc.extractLsb' 2 8).setWidth 32] else []),
    outCount := s.outCount + (if s.k = 2 then 1 else if s.k = 3 then 2 else 0) } := by
  rcases pair_cases s.k with hk | hk | hk | hk <;>
    simp [b64dFlush, hk, emitAll_eq, setGroup, setTail1, tailBytes, accByte, element]

/-- OUTQ has room for the flush when it has room for the bytes of a group of two or three sextets (R124). -/
theorem hasRoom_b64dTailCount {s : State} (htwo : s.k = 2 → room 1 s) (hthree : s.k = 3 → room 2 s) :
    hasRoom (b64dTailCount s.k) s = true := by
  rcases pair_cases s.k with hk | hk | hk | hk <;> rw [hk]
  · exact hasRoom_zero s
  · exact hasRoom_zero s
  · exact hasRoom_of_le s (htwo hk)
  · exact hasRoom_of_le s (hthree hk)

/-! ### The decoder's turn -/

/-- The pop of a consume step that is ready leaves the rest of INQ (R122). -/
theorem popInput_of_consumeReady {s : State} {op : BitVec 4} {e : Word} {rest : List Word}
    (hready : consumeReady op e rest s) : popInput s = { s with inq := rest, inCount := s.inCount + 1 } := by
  obtain ⟨-, -, -, hq⟩ := hready
  rw [popInput, hq, List.tail_cons]

/-- With an element at the head of INQ and room for what it emits, the decoder's turn is `B64D_consume(e, pos)` (R122). -/
theorem engineTurn_b64dConsume {s : State} {e : Word} {rest : List Word} (hready : consumeReady 2 e rest s)
    (hroom : hasRoom (b64dConsumeCount e s) s = true) :
    engineTurn s = .next (b64dConsume e s.inCount (popInput s)) := by
  obtain ⟨hrun, hop, hlt, hq⟩ := hready
  have enabled : ConsumeEnabled s e :=
    ⟨by simp [hrun], hlt, by simp [hq], b64dConsumeCount e s, by simp [consumeCount, hrun, hop, codecOf], hroom⟩
  rw [engineTurn_consume enabled]
  simp [consumeEffect, hrun, hop, codecOf, engineResult]

/-- With all characters consumed and room for the flush, the decoder's turn is `B64D_final()` (R123). -/
theorem engineTurn_b64dFinal {s : State} (hready : finalReady 2 s) (hroom : hasRoom (b64dTailCount s.k) s = true) :
    engineTurn s = .next (b64dFinal s) := by
  obtain ⟨hrun, hop, heq⟩ := hready
  have enabled : FinalEnabled s :=
    ⟨by simp [hrun], heq, b64dTailCount s.k, by simp [finalCount, b64dFinalCount, hrun, hop, codecOf], hroom⟩
  rw [engineTurn_final enabled]
  simp [finalEffect, hrun, hop, codecOf, engineResult]

/-! ### The character classes that end the data -/

/-- PAD flushes the open group and ends the data (R146). -/
theorem b64dConsume_pad {e : Word} (pos : Word) (s : State) (hclass : inv (byteOf e) = .pad) :
    b64dConsume e pos s = enterDrain (b64dFlush s) := by
  rw [b64dConsume, hclass]

/-- PAD emits what the flush emits (R124). -/
theorem b64dConsumeCount_pad {e : Word} (s : State) (hclass : inv (byteOf e) = .pad) :
    b64dConsumeCount e s = b64dTailCount s.k := by
  rw [b64dConsumeCount, hclass]

/-- In reject mode an unrecognized character discards the open group and is an engine error (R150). -/
theorem b64dConsume_reject {e : Word} (pos : Word) {s : State} (hmode : s.modeL = true)
    (hclass : inv (byteOf e) = .unrecognized) :
    b64dConsume e pos s = raiseEngineError .b64Char pos (setGroup 0 0 s) := by
  simp only [b64dConsume, hclass, hmode, if_true]

/-- In reject mode an unrecognized character emits nothing (R124). -/
theorem b64dConsumeCount_reject {e : Word} {s : State} (hmode : s.modeL = true)
    (hclass : inv (byteOf e) = .unrecognized) : b64dConsumeCount e s = 0 := by
  simp only [b64dConsumeCount, hclass, hmode, if_true]

/-! ### The statements -/

/-- Settles O27: PAD and the final step both flush the open group; the one then drains, the other completes. -/
theorem base64DecodeEndOfData : Obligations.Base64DecodeEndOfData := by
  intro s htwo hthree
  have hroom := hasRoom_b64dTailCount htwo hthree
  refine ⟨fun e rest hready hchar => ?pad, fun hready => ?final⟩
  case pad =>
    have hclass : inv (byteOf e) = .pad := by rw [byteOf, hchar]; rfl
    rw [engineTurn_b64dConsume hready (by rwa [b64dConsumeCount_pad s hclass]), b64dConsume_pad _ _ hclass, b64dFlush_eq,
      popInput_of_consumeReady hready]
    rfl
  case final =>
    rw [engineTurn_b64dFinal hready hroom, b64dFinal, b64dFlush_eq]
    rfl

/-- Settles O28: the step emits nothing, so it needs no room, and the error record is `raiseEngineError`'s. -/
theorem base64RejectRecordsTheError : Obligations.Base64RejectRecordsTheError := by
  intro s e rest hready hmode hclass
  have emitsNone : b64dConsumeCount e s = 0 := b64dConsumeCount_reject hmode hclass
  rw [engineTurn_b64dConsume hready (by rw [emitsNone]; exact hasRoom_zero s),
    b64dConsume_reject _ ((popInput_modeL s).trans hmode) hclass, raiseEngineError_eq, popInput_of_consumeReady hready]
  rfl

end Sys2Proof.Machine

/-! PROOF. The UTF-8 decoder (44_utf8_decode.md, R160 to R169): the classes of a lead as byte ranges, the turn the engine
takes when it decodes, and what each class, continuation byte and end of the input leaves in the state. -/

namespace Sys2Proof.Machine

/-! ### The classes of a byte that arrives with NEED = 0 (R78), as ranges -/

/-- The top bits of a byte are the value `v` exactly on one range of bytes. -/
theorem topBits_eq_iff {lo w : Nat} (h : lo + w = 8) (c : Byte) (v : BitVec w) :
    c.extractLsb' lo w = v ↔ v.toNat * 2 ^ lo ≤ c.toNat ∧ c.toNat ≤ v.toNat * 2 ^ lo + 2 ^ lo - 1 := by
  have hpos : 0 < 2 ^ lo := Nat.two_pow_pos lo
  have hfits : c.toNat / 2 ^ lo < 2 ^ w := by
    rw [Nat.div_lt_iff_lt_mul hpos, ← Nat.pow_add, Nat.add_comm w, h]
    exact c.isLt
  rw [← BitVec.toNat_inj, BitVec.extractLsb'_toNat, Nat.shiftRight_eq_div_pow, Nat.mod_eq_of_lt hfits,
    Nat.div_eq_iff hpos]

/-- Bit 7 is clear in the ASCII bytes (R78). -/
theorem asciiBit_eq_zero_iff (c : Byte) : c.extractLsb' 7 1 = 0#1 ↔ c ≤ 0x7F := by
  rw [topBits_eq_iff rfl]; bv_omega

/-- `classifyLead` by the range the byte lies in (R78). -/
theorem classifyLead_eq (c : Byte) : classifyLead c =
    if c ≤ 0x7F then .ascii (c.extractLsb' 0 7)
    else if 0xC0 ≤ c ∧ c ≤ 0xDF then .lead2 (c.extractLsb' 0 5)
    else if 0xE0 ≤ c ∧ c ≤ 0xEF then .lead3 (c.extractLsb' 0 4)
    else if 0xF0 ≤ c ∧ c ≤ 0xF7 then .lead4 (c.extractLsb' 0 3)
    else .invalid := by
  have ascii : c.extractLsb' 7 1 = 0b0 ↔ c ≤ 0x7F := asciiBit_eq_zero_iff c
  have two : c.extractLsb' 5 3 = 0b110 ↔ 0xC0 ≤ c ∧ c ≤ 0xDF := by
    rw [topBits_eq_iff rfl]; bv_omega
  have three : c.extractLsb' 4 4 = 0b1110 ↔ 0xE0 ≤ c ∧ c ≤ 0xEF := by
    rw [topBits_eq_iff rfl]; bv_omega
  have four : c.extractLsb' 3 5 = 0b11110 ↔ 0xF0 ≤ c ∧ c ≤ 0xF7 := by
    rw [topBits_eq_iff rfl]; bv_omega
  simp only [classifyLead, ascii, two, three, four]

/-- A byte up to 0x7F is its own low seven bits. -/
theorem ascii_eq_setWidth {c : Byte} (h : c ≤ 0x7F) : element (0#1 ++ c.extractLsb' 0 7) = c.setWidth 32 := by
  have bit7 : c.extractLsb' 7 1 = 0#1 := (asciiBit_eq_zero_iff c).mpr h
  have whole : 0#1 ++ c.extractLsb' 0 7 = c := by
    rw [← bit7]
    exact (BitVec.extractLsb'_append_extractLsb'_eq_extractLsb' (start₁ := 0) rfl).trans BitVec.extractLsb'_eq_self
  rw [element, whole]

/-! ### The decoder's turn -/

/-- A consume step emits one element for an ASCII byte between sequences and for the last byte of a sequence, and none
else (R124). -/
theorem u8dConsumeCount_eq (e : Word) (s : State) :
    u8dConsumeCount e s = if (s.need = 0 ∧ byteOf e ≤ 0x7F) ∨ s.need = 1 then 1 else 0 := by
  rcases pair_cases s.need with hneed | hneed | hneed | hneed <;> simp [u8dConsumeCount, hneed, asciiBit_eq_zero_iff]

section
variable {s : State} {e : Word} {rest : List Word} (hready : consumeReady 3 e rest s)
include hready

/-- With an element at the head of INQ, and room for one if the step emits, the decoder's turn is `U8D_consume(e, pos)`
(R122). -/
theorem engineTurn_u8dConsume (hroom : (s.need = 0 ∧ byteOf e ≤ 0x7F) ∨ s.need = 1 → room 1 s) :
    engineTurn s = .next (u8dConsume e s.inCount { s with inq := rest, inCount := s.inCount + 1 }) := by
  have enough : hasRoom (u8dConsumeCount e s) s = true := by
    rw [u8dConsumeCount_eq]
    split
    · exact hasRoom_of_le s (hroom ‹_›)
    · exact hasRoom_zero s
  rw [← popInput_of_consumeReady hready]
  obtain ⟨hrun, hop, hlt, hq⟩ := hready
  have enabled : ConsumeEnabled s e :=
    ⟨by simp [hrun], hlt, by simp [hq], u8dConsumeCount e s, by simp [consumeCount, hrun, hop, codecOf], enough⟩
  rw [engineTurn_consume enabled]
  simp [consumeEffect, hrun, hop, codecOf, engineResult]

/-- With NEED = 0 the turn starts at the byte, and only an ASCII byte needs room (R159). -/
theorem engineTurn_u8dStart (hneed : s.need = 0) (hroom : byteOf e ≤ 0x7F → room 1 s) :
    engineTurn s = .next (u8dStart (byteOf e) s.inCount { s with inq := rest, inCount := s.inCount + 1 }) := by
  rw [engineTurn_u8dConsume hready (by simpa [hneed] using hroom), u8dConsume, if_pos hneed]

/-- With NEED > 0 the turn goes on with the open sequence, and only its last byte needs room (R162, R163). -/
theorem engineTurn_u8dContinue (hneed : s.need ≠ 0) (hroom : s.need = 1 → room 1 s) :
    engineTurn s = .next (u8dContinue (byteOf e) { s with inq := rest, inCount := s.inCount + 1 }) := by
  rw [engineTurn_u8dConsume hready fun h => hroom (h.resolve_left fun h0 => hneed h0.1), u8dConsume, if_neg hneed]

/-- A multi-byte lead puts its payload `v` into ACC, `n` into NEED and its index into LEAD_POS, whatever OUTQ's room
(R161). -/
theorem engineTurn_u8dLead {w : Nat} {v : BitVec w} {n : BitVec 2} (hneed : s.need = 0) (hhigh : 0xC0 ≤ byteOf e)
    (hlead : ∀ pos t, u8dStart (byteOf e) pos t = u8dLead v n pos t) :
    engineTurn s = .next { s with
      inq := rest, inCount := s.inCount + 1, acc := v.setWidth 24, need := n, leadPos := s.inCount } := by
  have notAscii : ¬ byteOf e ≤ 0x7F := by bv_omega
  rw [engineTurn_u8dStart hready hneed (absurd · notAscii), hlead]
  rfl

end

/-- With all bytes consumed the decoder's turn is `U8D_final()`, which emits nothing and so needs no room (R123, R124). -/
theorem engineTurn_u8dFinal {s : State} (hready : finalReady 3 s) : engineTurn s = .next (u8dFinal s) := by
  obtain ⟨hrun, hop, heq⟩ := hready
  have enabled : FinalEnabled s :=
    ⟨by simp [hrun], heq, 0, by simp [finalCount, hrun, hop, codecOf], hasRoom_zero s⟩
  rw [engineTurn_final enabled]
  simp [finalEffect, hrun, hop, codecOf, engineResult]

/-! ### The statements -/

/-- Settles O29, by the class of the byte; the three multi-byte leads are one lemma. -/
theorem utf8DecodeLeads : Obligations.Utf8DecodeLeads := by
  intro s e rest c hready hneed hc
  obtain rfl : c = byteOf e := hc
  refine ⟨fun hle hroom => ?ascii, fun hlo hhi => ?two, fun hlo hhi => ?three, fun hlo hhi => ?four⟩
  case ascii =>
    rw [engineTurn_u8dStart hready hneed fun _ => hroom, u8dStart, classifyLead_eq, if_pos hle]
    simp only [ascii_eq_setWidth hle, emit]
  case two =>
    exact engineTurn_u8dLead hready hneed hlo fun pos t => by
      rw [u8dStart, classifyLead_eq, if_neg (by bv_omega), if_pos ⟨hlo, hhi⟩]
  case three =>
    exact engineTurn_u8dLead hready hneed (by bv_omega) fun pos t => by
      rw [u8dStart, classifyLead_eq, if_neg (by bv_omega), if_neg (by bv_omega), if_pos ⟨hlo, hhi⟩]
  case four =>
    exact engineTurn_u8dLead hready hneed (by bv_omega) fun pos t => by
      rw [u8dStart, classifyLead_eq, if_neg (by bv_omega), if_neg (by bv_omega), if_neg (by bv_omega),
        if_pos ⟨hlo, hhi⟩]

/-- Settles O30: a byte inside a sequence shifts its payload in, and only the last one, NEED = 1, emits. -/
theorem utf8DecodeContinuation : Obligations.Utf8DecodeContinuation := by
  intro s e rest a hready ha
  have shifted : shiftIn6 s.acc (payload (byteOf e)) = a := by
    rw [ha, shiftIn6, payload, byteOf, BitVec.extractLsb'_setWidth_of_le (by decide)]
  refine ⟨fun hneed => ?inner, fun hneed hroom => ?last⟩
  case inner =>
    have hopen : s.need ≠ 0 := fun h => by simp [h] at hneed
    have hnotLast : s.need ≠ 1 := fun h => by simp [h] at hneed
    rw [engineTurn_u8dContinue hready hopen (absurd · hnotLast)]
    simp only [u8dContinue, shifted, hnotLast, if_false, setSequence]
  case last =>
    rw [engineTurn_u8dContinue hready (by simp [hneed]) fun _ => hroom]
    simp only [u8dContinue, shifted, hneed, if_true, setSequence, emit]

/-- Settles O31: the step emits nothing, so it needs no room, and MODE_L decides between the error and the stop. -/
theorem utf8InvalidLead : Obligations.Utf8InvalidLead := by
  intro s e rest c hready hneed hc hrange
  obtain rfl : c = byteOf e := hc
  have notAscii : ¬ byteOf e ≤ 0x7F := by bv_omega
  have invalid : classifyLead (byteOf e) = .invalid := by
    rw [classifyLead_eq, if_neg notAscii, if_neg (by bv_omega), if_neg (by bv_omega), if_neg (by bv_omega)]
  rw [engineTurn_u8dStart hready hneed (absurd · notAscii), u8dStart, invalid]
  refine ⟨fun hmode => ?strict, fun hmode => ?lenient⟩
  case strict => simp only [u8dInvalidLead, hmode, if_true, raiseEngineError_eq]
  case lenient => simp only [u8dInvalidLead, hmode, Bool.false_eq_true, if_false, enterDrain, setLstop]

/-- Settles O32: NEED tells whether the input ended between sequences, and MODE_L what a truncated one is. -/
theorem utf8DecodeFinal : Obligations.Utf8DecodeFinal := by
  intro s hready
  rw [engineTurn_u8dFinal hready, u8dFinal]
  refine ⟨fun hneed => ?between, fun hneed hmode => ?strict, fun hneed hmode => ?lenient⟩
  case between => rw [if_pos hneed, complete]
  case strict =>
    rw [if_neg hneed, if_pos hmode, raiseEngineError_eq]
    rfl
  case lenient =>
    rw [if_neg hneed, if_neg (by simp [hmode])]
    rfl

end Sys2Proof.Machine

/-! PROOF. The UTF-8 encoder (45_utf8_encode.md, R174 to R180): the bytes of a code point as masks and fields, and the
turn the engine takes when it encodes. -/

namespace Sys2Proof.Machine

/-! ### The bytes of a code point (R77, R79) -/

/-- A continuation byte is `0x80 | cp[lo+5:lo]` (R77). -/
theorem contByte_eq (cp : Word) (lo : Nat) : contByte cp lo = 0x80 ||| (cp.extractLsb' lo 6).setWidth 32 := by
  rw [contByte]
  exact BitVec.setWidth_append_eq_shiftLeft_setWidth_or

section
variable {e : Word}

/-- One byte, with the prefix `0` (R175). -/
theorem utf8Bytes_one (hhi : e ≤ 0x7F) : utf8Bytes e = [(e.extractLsb' 0 7).setWidth 32] := by
  have whole : element (0b0#1 ++ e.extractLsb' 0 7) = (e.extractLsb' 0 7).setWidth 32 :=
    BitVec.setWidth_append_eq_shiftLeft_setWidth_or.trans BitVec.zero_or
  rw [utf8Bytes, if_pos hhi, whole]

/-- Two bytes, the lead with the prefix `110` (R176). -/
theorem utf8Bytes_two (hlo : 0x80 ≤ e) (hhi : e ≤ 0x7FF) : utf8Bytes e =
    [0xC0 ||| (e.extractLsb' 6 5).setWidth 32, 0x80 ||| (e.extractLsb' 0 6).setWidth 32] := by
  have lead : element (0b110#3 ++ e.extractLsb' 6 5) = 0xC0 ||| (e.extractLsb' 6 5).setWidth 32 :=
    BitVec.setWidth_append_eq_shiftLeft_setWidth_or
  rw [utf8Bytes, if_neg (by bv_omega), if_pos hhi, lead, contByte_eq]

/-- Three bytes, the lead with the prefix `1110` (R177). -/
theorem utf8Bytes_three (hlo : 0x800 ≤ e) (hhi : e ≤ 0xFFFF) : utf8Bytes e =
    [0xE0 ||| (e.extractLsb' 12 4).setWidth 32, 0x80 ||| (e.extractLsb' 6 6).setWidth 32,
      0x80 ||| (e.extractLsb' 0 6).setWidth 32] := by
  have lead : element (0b1110#4 ++ e.extractLsb' 12 4) = 0xE0 ||| (e.extractLsb' 12 4).setWidth 32 :=
    BitVec.setWidth_append_eq_shiftLeft_setWidth_or
  rw [utf8Bytes, if_neg (by bv_omega), if_neg (by bv_omega), if_pos hhi, lead, contByte_eq, contByte_eq]

/-- Four bytes, the lead with the prefix `11110`, for every larger value (R178, R179). -/
theorem utf8Bytes_four (hlo : 0x10000 ≤ e) : utf8Bytes e =
    [0xF0 ||| (e.extractLsb' 18 3).setWidth 32, 0x80 ||| (e.extractLsb' 12 6).setWidth 32,
      0x80 ||| (e.extractLsb' 6 6).setWidth 32, 0x80 ||| (e.extractLsb' 0 6).setWidth 32] := by
  have lead : element (0b11110#5 ++ e.extractLsb' 18 3) = 0xF0 ||| (e.extractLsb' 18 3).setWidth 32 :=
    BitVec.setWidth_append_eq_shiftLeft_setWidth_or
  rw [utf8Bytes, if_neg (by bv_omega), if_neg (by bv_omega), if_neg (by bv_omega), lead, contByte_eq, contByte_eq,
    contByte_eq]

end

/-- The count of R124 is the number of bytes the code point has. -/
theorem u8eConsumeCount_eq_length (e : Word) : u8eConsumeCount e = (utf8Bytes e).length := by
  simp only [u8eConsumeCount, utf8Bytes, apply_ite List.length, List.length_cons, List.length_nil]

/-! ### The encoder's turn -/

/-- A consume step appends the bytes of the code point, and sets OVF for a value above 0x1FFFFF (R174, R179). -/
theorem u8eConsume_eq (e : Word) (s : State) : u8eConsume e s = { s with
    outq := s.outq ++ utf8Bytes e, outCount := s.outCount + BitVec.ofNat 32 (utf8Bytes e).length,
    ovf := if 0x1FFFFF < e then true else s.ovf } := by
  rw [u8eConsume, emitAll_eq, maxCodePoint]
  split <;> rfl

section
variable {s : State} {e : Word} {rest bytes : List Word} (hready : consumeReady 4 e rest s)
include hready

/-- With a code point at the head of INQ and room for its bytes, the encoder's turn is `U8E_consume(e)` (R122, R174). -/
theorem engineTurn_u8eConsume (hbytes : utf8Bytes e = bytes) (hroom : room bytes.length s) :
    engineTurn s = .next { s with
      inq := rest, inCount := s.inCount + 1, outCount := s.outCount + BitVec.ofNat 32 bytes.length,
      ovf := if 0x1FFFFF < e then true else s.ovf, outq := s.outq ++ bytes } := by
  have hpop := popInput_of_consumeReady hready
  obtain ⟨hrun, hop, hlt, hq⟩ := hready
  have counted : consumeCount e s = some bytes.length := by
    simp [consumeCount, hrun, hop, codecOf, u8eConsumeCount_eq_length, hbytes]
  have enabled : ConsumeEnabled s e :=
    ⟨by simp [hrun], hlt, by simp [hq], bytes.length, counted, hasRoom_of_le s hroom⟩
  rw [engineTurn_consume enabled, hpop]
  simp [consumeEffect, hrun, hop, codecOf, engineResult, u8eConsume_eq, hbytes]

/-- Up to 0x1FFFFF the turn leaves OVF as it is (R179). -/
theorem engineTurn_u8eConsume_inRange (hle : e ≤ 0x1FFFFF) (hbytes : utf8Bytes e = bytes)
    (hroom : room bytes.length s) :
    engineTurn s = .next { s with
      inq := rest, inCount := s.inCount + 1, outCount := s.outCount + BitVec.ofNat 32 bytes.length,
      outq := s.outq ++ bytes } := by
  rw [engineTurn_u8eConsume hready hbytes hroom, if_neg (BitVec.not_lt.mpr hle)]

end

/-- With all code points consumed the encoder's turn is `complete()`, which emits nothing and so needs no room (R123,
R180). -/
theorem engineTurn_u8eFinal {s : State} (hready : finalReady 4 s) : engineTurn s = .next (complete s) := by
  obtain ⟨hrun, hop, heq⟩ := hready
  have enabled : FinalEnabled s :=
    ⟨by simp [hrun], heq, 0, by simp [finalCount, hrun, hop, codecOf], hasRoom_zero s⟩
  rw [engineTurn_final enabled]
  simp [finalEffect, u8eFinal, hrun, hop, codecOf, engineResult]

/-! ### The statement -/

/-- Settles O33, by the range of the code point: the bytes are those of its length, only the longest can overflow. -/
theorem utf8EncodeSteps : Obligations.Utf8EncodeSteps := by
  refine fun s => ⟨fun e rest hready => ?consume, engineTurn_u8eFinal⟩
  refine ⟨fun hhi => ?one, fun hlo hhi => ?two, fun hlo hhi => ?three, fun hlo => ?four⟩
  case one => exact engineTurn_u8eConsume_inRange hready (by bv_omega) (utf8Bytes_one hhi)
  case two => exact engineTurn_u8eConsume_inRange hready (by bv_omega) (utf8Bytes_two hlo hhi)
  case three => exact engineTurn_u8eConsume_inRange hready (by bv_omega) (utf8Bytes_three hlo hhi)
  case four => exact engineTurn_u8eConsume hready (utf8Bytes_four hlo)

end Sys2Proof.Machine

/-! PROOF. Reset (70_reset_and_hazards.md, R202): what the host reads from a block that has just been reset. -/

namespace Sys2Proof.Machine

/-- An idle block takes no input, so IN_READY is 0 whatever the depth of INQ (R24). -/
theorem inReady_of_idle {s : State} (h : s.phase = .idle) : s.inReady = false :=
  Bool.eq_false_iff.mpr fun ready => ((inReady_iff s).mp ready).1 h

/-- After reset the flags the STATUS word computes are as clear as those it stores (R202). -/
theorem statusWord_reset (p : List Event) : State.statusWord { State.reset with pending := p } = 0 := by
  rw [State.statusWord, inReady_of_idle rfl]
  simp only [State.reset, State.busy, State.err, State.outValid]
  decide

/-- Settles O39: what each read answers in every state (R84 to R108), taken at the reset values. -/
theorem readsAfterReset : Obligations.ReadsAfterReset := by
  intro p a s hs
  obtain ⟨id, param, inData, reserved⟩ := readConstants.2 a s
  obtain ⟨ctrl, cmd, inLen⟩ := readControlRegisters.2 a s
  obtain ⟨errCode, errPos, inCount, outCount⟩ := readResultRegisters.2 a s
  have status : exec (.rdStatus a) s = .next (respond s.statusWord s) := rfl
  have outData := readOutDataPops.2.2 a s (congrArg State.outq hs)
  subst hs
  rw [statusWord_reset] at status
  refine ⟨id, param, ?zeros, outData, rfl, ?fields⟩
  case zeros =>
    simp only [List.forall_mem_cons]
    exact ⟨ctrl, cmd, inLen, status, errCode, errPos, inCount, outCount, inData, reserved, List.forall_mem_nil _⟩
  case fields => simp only [State.reset, and_self]

end Sys2Proof.Machine

/-! PROOF. The encoding (30_encoding.md, R62 to R65, R80): the decoder and the encoder undo each other on what a word
carries, a host word fits one row of the opcode table, and ADDR[1:0] do not matter (R50). -/

namespace Sys2Proof

/-! ### A transaction's word and its instruction -/

theorem decode_readWord {r : Reg} {a : BitVec 6} (h : addresses r a = true) : decode (readWord a) = readFrom r a := by
  obtain ⟨hwe, ha⟩ := readWord_fields a
  rw [readWord, decode_bus_read 0 hwe, ha, (addresses_iff r a).mp h]

theorem decode_writeWord {r : Reg} {a : BitVec 6} (d : Word) (h : addresses r a = true) :
    decode (writeWord a d) = writeTo r a d := by
  obtain ⟨hwe, ha⟩ := writeWord_fields a
  rw [writeWord, decode_bus_write d hwe, ha, (addresses_iff r a).mp h]

theorem encode_readFrom (r : Reg) (a : BitVec 6) : encode (readFrom r a) = readWord a := by cases r <;> rfl

theorem encode_writeTo (r : Reg) (a : BitVec 6) (d : Word) : encode (writeTo r a d) = writeWord a d := by
  cases r <;> rfl

theorem wellFormed_readFrom (r : Reg) (a : BitVec 6) : wellFormed (readFrom r a) = addresses r a := by cases r <;> rfl

theorem wellFormed_writeTo (r : Reg) (a : BitVec 6) (d : Word) : wellFormed (writeTo r a d) = addresses r a := by
  cases r <;> rfl

/-- A T word is WE above its offset (R80). -/
theorem busWord_fields : ∀ t : BitVec 7, BitVec.ofBool (t.getLsbD 6) ++ t.extractLsb' 0 6 = t := by decide

theorem readWord_of_offset {t : BitVec 7} (h : t.getLsbD 6 = false) : readWord (t.extractLsb' 0 6) = .bus t 0 := by
  have word := busWord_fields t
  rw [h] at word
  exact congrArg (HostWord.bus · 0) word

theorem writeWord_of_offset {t : BitVec 7} (d : Word) (h : t.getLsbD 6 = true) :
    writeWord (t.extractLsb' 0 6) d = .bus t d := by
  have word := busWord_fields t
  rw [h] at word
  exact congrArg (HostWord.bus · d) word

/-! ### A command's word and its instruction -/

/-- Every command word decodes to a command its OPCODE and MODE allow, and that command carries the whole word (R62). -/
theorem decodeCmd_spec (d : Word) : wellFormed (decode (.cmd d)) = true ∧ encode (decode (.cmd d)) = .cmd d := by
  rcases Machine.opcode_cases (opcodeOf d) with
    o | o | o | o | o | o | o | o | o | o | o | o | o | o | o | o <;> cases hm : modeOf d <;>
    simp [decode, decodeCmd, o, hm, wellFormed, hasOpcode, hasOpcodeAndMode, encode]

/-! ### The statements -/

/-- Settles O1: a transaction by the register its offset names, a command by its OPCODE and MODE. -/
theorem decodeOfEncode : Obligations.DecodeOfEncode := by
  intro i hi
  cases i
  case rdId | rdCtrl | rdCmd | rdInLen | rdStatus | rdErrCode | rdErrPos | rdInCount | rdOutCount | rdInData |
      rdOutData | rdParam | rdReserved => exact decode_readWord hi
  case wrId | wrCtrl | wrCmd | wrInLen | wrStatus | wrErrCode | wrErrPos | wrInCount | wrOutCount | wrInData |
      wrOutData | wrParam | wrReserved => exact decode_writeWord _ hi
  case b64dec | b64decReject | u8decLenient | u8decStrict =>
    obtain ⟨ho, hm⟩ := (hasOpcodeAndMode_iff _ _ _).mp hi
    simp [encode, decode, decodeCmd, ho, hm]
  all_goals
    have ho := (hasOpcode_iff _ _).mp hi
    simp [encode, decode, decodeCmd, ho]

/-- Settles O2: a transaction by WE, a command whole. -/
theorem encodeOfDecode : Obligations.EncodeOfDecode := by
  rintro (⟨t, d⟩ | d)
  case bus =>
    have hself : addresses (regAt (t.extractLsb' 0 6)) (t.extractLsb' 0 6) = true := (addresses_iff _ _).mpr rfl
    cases hwe : t.getLsbD 6 with
    | false =>
      rw [decode_bus_read d hwe, wellFormed_readFrom, encode_readFrom, readWord_of_offset hwe]
      exact ⟨hself, .inr ⟨t, d, rfl, hwe, rfl⟩⟩
    | true =>
      rw [decode_bus_write d hwe, wellFormed_writeTo, encode_writeTo, writeWord_of_offset d hwe]
      exact ⟨hself, .inl rfl⟩
  case cmd =>
    obtain ⟨hwf, henc⟩ := decodeCmd_spec d
    exact ⟨hwf, .inl henc⟩

/-! ### The opcode table (R80) -/

/-- Whether a transaction fits a row does not depend on its data. -/
theorem fits_bus_data (r : TableRow) (t : BitVec 7) (d d' : Word) : r.fits (.bus t d) = r.fits (.bus t d') := rfl

/-- A host word fits the row that bears the name of the instruction the decoder reads. -/
theorem own_row (w : HostWord) : ∃ r ∈ opcodeTable, r.mnemonic = mnemonic (decode w) ∧ r.fits w = true := by
  obtain ⟨hwf, henc⟩ := encodeOfDecode w
  have named : Laws.TableRow.Statement (decode w) := by
    cases decode w with
    | rdId a => exact Laws.TableRow.rdId a
    | wrId a d => exact Laws.TableRow.wrId a d
    | rdCtrl a => exact Laws.TableRow.rdCtrl a
    | wrCtrl a d => exact Laws.TableRow.wrCtrl a d
    | rdCmd a => exact Laws.TableRow.rdCmd a
    | wrCmd a d => exact Laws.TableRow.wrCmd a d
    | rdInLen a => exact Laws.TableRow.rdInLen a
    | wrInLen a d => exact Laws.TableRow.wrInLen a d
    | rdStatus a => exact Laws.TableRow.rdStatus a
    | wrStatus a d => exact Laws.TableRow.wrStatus a d
    | rdErrCode a => exact Laws.TableRow.rdErrCode a
    | wrErrCode a d => exact Laws.TableRow.wrErrCode a d
    | rdErrPos a => exact Laws.TableRow.rdErrPos a
    | wrErrPos a d => exact Laws.TableRow.wrErrPos a d
    | rdInCount a => exact Laws.TableRow.rdInCount a
    | wrInCount a d => exact Laws.TableRow.wrInCount a d
    | rdOutCount a => exact Laws.TableRow.rdOutCount a
    | wrOutCount a d => exact Laws.TableRow.wrOutCount a d
    | rdInData a => exact Laws.TableRow.rdInData a
    | wrInData a d => exact Laws.TableRow.wrInData a d
    | rdOutData a => exact Laws.TableRow.rdOutData a
    | wrOutData a d => exact Laws.TableRow.wrOutData a d
    | rdParam a => exact Laws.TableRow.rdParam a
    | wrParam a d => exact Laws.TableRow.wrParam a d
    | rdReserved a => exact Laws.TableRow.rdReserved a
    | wrReserved a d => exact Laws.TableRow.wrReserved a d
    | nop d => exact Laws.TableRow.nop d
    | b64enc d => exact Laws.TableRow.b64enc d
    | b64dec d => exact Laws.TableRow.b64dec d
    | b64decReject d => exact Laws.TableRow.b64decReject d
    | u8decLenient d => exact Laws.TableRow.u8decLenient d
    | u8decStrict d => exact Laws.TableRow.u8decStrict d
    | u8enc d => exact Laws.TableRow.u8enc d
    | illegal5 d => exact Laws.TableRow.illegal5 d
    | illegal6 d => exact Laws.TableRow.illegal6 d
    | illegal7 d => exact Laws.TableRow.illegal7 d
    | illegal8 d => exact Laws.TableRow.illegal8 d
    | illegal9 d => exact Laws.TableRow.illegal9 d
    | illegalA d => exact Laws.TableRow.illegalA d
    | illegalB d => exact Laws.TableRow.illegalB d
    | illegalC d => exact Laws.TableRow.illegalC d
    | illegalD d => exact Laws.TableRow.illegalD d
    | illegalE d => exact Laws.TableRow.illegalE d
    | abort d => exact Laws.TableRow.abort d
  obtain ⟨r, hr, hname, hfit⟩ := named hwf
  refine ⟨r, hr, hname, ?_⟩
  rcases henc with henc | ⟨t, d, rfl, -, henc⟩
  · rwa [henc] at hfit
  · rw [henc] at hfit
    rwa [fits_bus_data r t d 0]

/-- Two rows that one word fits have the same format, and their match values agree where both masks look. -/
theorem fits_agree {r r' : TableRow} {w : HostWord} (h : r.fits w = true) (h' : r'.fits w = true) :
    r.format = r'.format ∧ r.pattern &&& r'.mask = r'.pattern &&& r.mask := by
  cases w <;>
  · simp only [TableRow.fits, Bool.and_eq_true, beq_iff_eq] at h h'
    obtain ⟨hf, hp⟩ := h
    obtain ⟨hf', hp'⟩ := h'
    rw [hf, hf', ← hp, ← hp']
    exact ⟨rfl, by ac_rfl⟩

/-- Rows whose match values agree where both masks look are one row: no two rows overlap. -/
theorem rows_apart : ∀ r ∈ opcodeTable, ∀ r' ∈ opcodeTable, r.format = r'.format →
    r.pattern &&& r'.mask = r'.pattern &&& r.mask → r = r' := by decide

/-- No two rows bear one name. -/
theorem row_names_apart : ∀ r ∈ opcodeTable, ∀ r' ∈ opcodeTable, r.mnemonic = r'.mnemonic → r = r' := by decide

/-- Settles O3: the row of the decoded instruction's name fits, and no other row overlaps it or shares its name. -/
theorem decodeFollowsOpcodeTable : Obligations.DecodeFollowsOpcodeTable := by
  intro w
  obtain ⟨own, hown, hname, hfit⟩ := own_row w
  refine ⟨⟨own, hown, hfit⟩, fun r hr => ⟨fun h => ?_, fun h => ?_⟩⟩
  · obtain ⟨hformat, hagree⟩ := fits_agree h hfit
    rw [rows_apart r hr own hown hformat hagree, hname]
  · rwa [row_names_apart r hr own hown (h.trans hname.symm)]

/-- Settles O4, by running the decoder on each word. -/
theorem writtenWordsDecode : Obligations.WrittenWordsDecode :=
  ⟨rfl, rfl, rfl, rfl, rfl, rfl, rfl, rfl, rfl⟩

end Sys2Proof

namespace Sys2Proof.Machine

/-! ### ADDR[1:0] (R50) -/

/-- No read rule looks at its offset. -/
theorem exec_readFrom_offset (r : Reg) (a b : BitVec 6) (s : State) :
    exec (readFrom r a) s = exec (readFrom r b) s := by cases r <;> rfl

/-- No write rule looks at its offset. -/
theorem exec_writeTo_offset (r : Reg) (a b : BitVec 6) (d : Word) (s : State) :
    exec (writeTo r a d) s = exec (writeTo r b d) s := by cases r <;> rfl

/-- WE and ADDR[5:2] are T[6:2]. -/
theorem busWord_upper (t : BitVec 7) : t.getLsbD 6 = (t.extractLsb' 2 5).getLsbD 4 ∧
    (t.extractLsb' 0 6).extractLsb' 2 4 = (t.extractLsb' 2 5).extractLsb' 0 4 := by
  revert t; decide

/-- Settles O5: T[6:2] give WE and the register, and no rule looks at the rest of the offset. -/
theorem lowAddressBitsAreIgnored : Obligations.LowAddressBitsAreIgnored := by
  intro t u d s hupper
  obtain ⟨tWe, tReg⟩ := busWord_upper t
  obtain ⟨uWe, uReg⟩ := busWord_upper u
  have we : t.getLsbD 6 = u.getLsbD 6 := by rw [tWe, uWe, hupper]
  have reg : regAt (t.extractLsb' 0 6) = regAt (u.extractLsb' 0 6) := by simp only [regAt, tReg, uReg, hupper]
  cases hwe : u.getLsbD 6 with
  | false =>
    rw [decode_bus_read d (we.trans hwe), decode_bus_read d hwe, reg]
    exact exec_readFrom_offset _ _ _ s
  | true =>
    rw [decode_bus_write d (we.trans hwe), decode_bus_write d hwe, reg]
    exact exec_writeTo_offset _ _ _ d s

end Sys2Proof.Machine

/-! PROOF. What an engine step can be, effect by effect (41_engine.md to 45_utf8_encode.md): the inversion of a consume
step (`ConsumeMove`) and of a final step (`FinalMove`), and what both do to OUTQ (R124). -/

namespace Sys2Proof.Machine

variable {s t : State} {e pos : Word}

/-! ### The steps one by one -/

/-- A character stands for the sextet `v`: by its index, or in substitute mode as index 0 (R147, R149). -/
def readsAs (e : Word) (reject : Bool) (v : Sextet) : Prop :=
  inv (byteOf e) = .index v ∨ (inv (byteOf e) = .unrecognized ∧ reject = false ∧ v = 0)

/-- What a consume step does with its element `e` of index `pos`: one case per rule. -/
inductive ConsumeMove (e pos : Word) (s : State) : State → Prop
  | discard : s.phase = .drain → ConsumeMove e pos s s   -- R125
  | encodeByte : s.phase = .run → codecOf s.opL = some .b64enc → s.k = 0 ∨ s.k = 1 →
      ConsumeMove e pos s (setGroup (shiftIn8 s.acc (byteOf e)) (s.k + 1) s)   -- R137
  | encodeGroup : s.phase = .run → codecOf s.opL = some .b64enc → s.k = 2 →
      ConsumeMove e pos s (setGroup 0 0 (emitAll (fullGroupChars (s.acc.extractLsb' 0 16 ++ byteOf e)) s))   -- R138
  | sextet (v) : s.phase = .run → codecOf s.opL = some .b64dec → readsAs e s.modeL v → s.k ≠ 3 →
      ConsumeMove e pos s (setGroup (shiftIn6 s.acc v) (s.k + 1) s)   -- R147, R149
  | decodeGroup (v) : s.phase = .run → codecOf s.opL = some .b64dec → readsAs e s.modeL v → s.k = 3 →
      ConsumeMove e pos s (setGroup 0 0 (emitAll (fullGroupBytes (s.acc.extractLsb' 0 18 ++ v)) s))   -- R148, R149
  | pad : s.phase = .run → codecOf s.opL = some .b64dec → inv (byteOf e) = .pad →
      ConsumeMove e pos s (enterDrain (b64dFlush s))   -- R146
  | badChar : s.phase = .run → codecOf s.opL = some .b64dec → inv (byteOf e) = .unrecognized → s.modeL = true →
      ConsumeMove e pos s (raiseEngineError .b64Char pos (setGroup 0 0 s))   -- R150
  | ascii (v) : s.phase = .run → codecOf s.opL = some .u8dec → s.need = 0 → classifyLead (byteOf e) = .ascii v →
      ConsumeMove e pos s (emit (element (0#1 ++ v)) s)   -- R160
  | lead2 (v) : s.phase = .run → codecOf s.opL = some .u8dec → s.need = 0 → classifyLead (byteOf e) = .lead2 v →
      ConsumeMove e pos s (u8dLead v 1 pos s)   -- R161
  | lead3 (v) : s.phase = .run → codecOf s.opL = some .u8dec → s.need = 0 → classifyLead (byteOf e) = .lead3 v →
      ConsumeMove e pos s (u8dLead v 2 pos s)   -- R161
  | lead4 (v) : s.phase = .run → codecOf s.opL = some .u8dec → s.need = 0 → classifyLead (byteOf e) = .lead4 v →
      ConsumeMove e pos s (u8dLead v 3 pos s)   -- R161
  | badLead : s.phase = .run → codecOf s.opL = some .u8dec → s.need = 0 → classifyLead (byteOf e) = .invalid →
      s.modeL = true → ConsumeMove e pos s (raiseEngineError .u8Lead pos s)   -- R165
  | stopLead : s.phase = .run → codecOf s.opL = some .u8dec → s.need = 0 → classifyLead (byteOf e) = .invalid →
      s.modeL = false → ConsumeMove e pos s (enterDrain (setLstop s))   -- R166
  | inner : s.phase = .run → codecOf s.opL = some .u8dec → s.need = 2 ∨ s.need = 3 →
      ConsumeMove e pos s (setSequence (shiftIn6 s.acc (payload (byteOf e))) (s.need - 1) s)   -- R162
  | last : s.phase = .run → codecOf s.opL = some .u8dec → s.need = 1 → ConsumeMove e pos s
      (setSequence 0 0 (emit ((shiftIn6 s.acc (payload (byteOf e))).setWidth 32) s))   -- R163
  | codePoint : s.phase = .run → codecOf s.opL = some .u8enc → ConsumeMove e pos s (u8eConsume e s)   -- R174

/-- What a final step does: one case per rule. -/
inductive FinalMove (s : State) : State → Prop
  | drained : s.phase = .drain → FinalMove s (complete s)   -- R126
  | encodeNone : s.phase = .run → codecOf s.opL = some .b64enc → s.k = 0 → FinalMove s (complete s)   -- R139
  | encodeOne : s.phase = .run → codecOf s.opL = some .b64enc → s.k = 1 →
      FinalMove s (complete (setGroup 0 0 (emitAll (oneByteChars (s.acc.extractLsb' 0 8)) s)))   -- R140
  | encodeTwo : s.phase = .run → codecOf s.opL = some .b64enc → s.k = 2 → FinalMove s
      (complete (setGroup 0 0 (emitAll (twoByteChars (s.acc.extractLsb' 8 8) (s.acc.extractLsb' 0 8)) s)))   -- R141
  | flush : s.phase = .run → codecOf s.opL = some .b64dec → FinalMove s (complete (b64dFlush s))   -- R152
  | between : s.phase = .run → codecOf s.opL = some .u8dec → s.need = 0 → FinalMove s (complete s)   -- R167
  | truncated : s.phase = .run → codecOf s.opL = some .u8dec → s.need ≠ 0 → s.modeL = true →
      FinalMove s (complete (raiseEngineError .u8Trunc s.leadPos (setSequence 0 0 s)))   -- R168
  | stopInside : s.phase = .run → codecOf s.opL = some .u8dec → s.need ≠ 0 → s.modeL = false →
      FinalMove s (complete (setLstop (setSequence 0 0 s)))   -- R169
  | encoded : s.phase = .run → codecOf s.opL = some .u8enc → FinalMove s (complete s)   -- R180

theorem phase_run_of (hbusy : s.phase ≠ .idle) (hdrain : s.phase ≠ .drain) : s.phase = .run := by
  cases h : s.phase <;> simp_all

theorem b64eConsume_move (hrun : s.phase = .run) (hc : codecOf s.opL = some .b64enc)
    (h : b64eConsume e s = some t) : ConsumeMove e pos s t := by
  rcases pair_cases s.k with k | k | k | k <;> simp only [b64eConsume, k] at h <;> cases h
  · simpa only [k] using ConsumeMove.encodeByte hrun hc (.inl k)
  · simpa only [k] using ConsumeMove.encodeByte hrun hc (.inr k)
  · exact .encodeGroup hrun hc k

theorem b64dSextet_move (hrun : s.phase = .run) (hc : codecOf s.opL = some .b64dec) {v : Sextet}
    (hv : readsAs e s.modeL v) : ConsumeMove e pos s (b64dSextet v s) := by
  unfold b64dSextet
  split
  · exact .decodeGroup v hrun hc hv ‹_›
  · exact .sextet v hrun hc hv ‹_›

theorem b64dConsume_move (hrun : s.phase = .run) (hc : codecOf s.opL = some .b64dec) :
    ConsumeMove e pos s (b64dConsume e pos s) := by
  unfold b64dConsume
  split
  case h_1 hclass => exact .pad hrun hc hclass
  case h_2 v hclass => exact b64dSextet_move hrun hc (.inl hclass)
  case h_3 hclass =>
    split
    case isTrue hmode => exact .badChar hrun hc hclass hmode
    case isFalse hmode => exact b64dSextet_move hrun hc (.inr ⟨hclass, by simpa using hmode, rfl⟩)

theorem u8dStart_move (hrun : s.phase = .run) (hc : codecOf s.opL = some .u8dec) (hneed : s.need = 0) :
    ConsumeMove e pos s (u8dStart (byteOf e) pos s) := by
  unfold u8dStart
  split
  case h_1 v hclass => exact .ascii v hrun hc hneed hclass
  case h_2 v hclass => exact .lead2 v hrun hc hneed hclass
  case h_3 v hclass => exact .lead3 v hrun hc hneed hclass
  case h_4 v hclass => exact .lead4 v hrun hc hneed hclass
  case h_5 hclass =>
    unfold u8dInvalidLead
    split
    case isTrue hmode => exact .badLead hrun hc hneed hclass hmode
    case isFalse hmode => exact .stopLead hrun hc hneed hclass (by simpa using hmode)

theorem u8dConsume_move (hrun : s.phase = .run) (hc : codecOf s.opL = some .u8dec) :
    ConsumeMove e pos s (u8dConsume e pos s) := by
  rcases pair_cases s.need with hneed | hneed | hneed | hneed
  · rw [u8dConsume, if_pos hneed]; exact u8dStart_move hrun hc hneed
  · rw [u8dConsume, if_neg (by simp [hneed]), u8dContinue, if_pos hneed]; exact .last hrun hc hneed
  · rw [u8dConsume, if_neg (by simp [hneed]), u8dContinue, if_neg (by simp [hneed])]
    exact .inner hrun hc (.inl hneed)
  · rw [u8dConsume, if_neg (by simp [hneed]), u8dContinue, if_neg (by simp [hneed])]
    exact .inner hrun hc (.inr hneed)

/-- A consume step of a busy block is one of the cases of `ConsumeMove`. -/
theorem consumeEffect_move (hbusy : s.phase ≠ .idle) (h : consumeEffect e pos s = some t) : ConsumeMove e pos s t := by
  unfold consumeEffect at h
  split at h
  case isTrue hdrain => cases h; exact .discard hdrain
  case isFalse hdrain =>
    have hrun := phase_run_of hbusy hdrain
    split at h <;> rename_i hc
    · exact b64eConsume_move hrun hc h
    · cases h; exact b64dConsume_move hrun hc
    · cases h; exact u8dConsume_move hrun hc
    · cases h; exact .codePoint hrun hc
    · cases h

theorem b64eFinal_move (hrun : s.phase = .run) (hc : codecOf s.opL = some .b64enc) (h : b64eFinal s = some t) :
    FinalMove s t := by
  rcases pair_cases s.k with k | k | k | k <;> simp only [b64eFinal, k] at h <;> cases h
  · exact .encodeNone hrun hc k
  · exact .encodeOne hrun hc k
  · exact .encodeTwo hrun hc k

theorem u8dFinal_move (hrun : s.phase = .run) (hc : codecOf s.opL = some .u8dec) : FinalMove s (u8dFinal s) := by
  unfold u8dFinal
  split
  · exact .between hrun hc ‹_›
  case isFalse hneed =>
    split
    case isTrue hmode => exact .truncated hrun hc hneed hmode
    case isFalse hmode => exact .stopInside hrun hc hneed (by simpa using hmode)

/-- A final step of a busy block is one of the cases of `FinalMove`. -/
theorem finalEffect_move (hbusy : s.phase ≠ .idle) (h : finalEffect s = some t) : FinalMove s t := by
  unfold finalEffect at h
  split at h
  case isTrue hdrain => cases h; exact .drained hdrain
  case isFalse hdrain =>
    have hrun := phase_run_of hbusy hdrain
    split at h <;> rename_i hc
    · exact b64eFinal_move hrun hc h
    · cases h; exact .flush hrun hc
    · cases h; exact u8dFinal_move hrun hc
    · cases h; exact .encoded hrun hc
    · cases h

/-! ### The enabled step: its pop, its emission and its room -/

/-- The count of R124 does not look at what the pop changes. -/
theorem consumeCount_popInput (e : Word) (s : State) : consumeCount e (popInput s) = consumeCount e s := rfl

/-- An emission for which OUTQ has room keeps OUTQ within its capacity (R122). -/
theorem outq_fits_of_emits {n : Nat} (hemits : emits n s t) (hroom : hasRoom n s = true)
    (hfits : s.outq.length ≤ Config.outDepth) : t.outq.length ≤ Config.outDepth := by
  obtain ⟨vs, hq, -, hlen, -⟩ := hemits
  rw [hasRoom_iff] at hroom
  rw [hq, List.length_append, hlen]
  omega

/-- The engine takes the enabled consume step on `e` (R122). -/
structure ConsumeStep (s : State) (e : Word) (t : State) : Prop where
  enabled : ConsumeEnabled s e
  effect  : consumeEffect e s.inCount (popInput s) = some t

/-- The engine takes the enabled final step (R123). -/
structure FinalStep (s t : State) : Prop where
  enabled : FinalEnabled s
  effect  : finalEffect s = some t

theorem ConsumeStep.busy (h : ConsumeStep s e t) : s.phase ≠ .idle := h.enabled.1

theorem FinalStep.busy (h : FinalStep s t) : s.phase ≠ .idle := h.enabled.1

theorem ConsumeStep.frame (h : ConsumeStep s e t) : ConsumeFrame (popInput s) t := consumeEffect_frame h.busy h.effect

theorem FinalStep.frame (h : FinalStep s t) : FinalFrame s t := finalEffect_frame h.effect

theorem ConsumeStep.move (h : ConsumeStep s e t) : ConsumeMove e s.inCount (popInput s) t :=
  consumeEffect_move h.busy h.effect

theorem FinalStep.move (h : FinalStep s t) : FinalMove s t := finalEffect_move h.busy h.effect

/-- The enabled consume step emits the count of R124, for which there is room. -/
theorem ConsumeStep.emission (h : ConsumeStep s e t) :
    ∃ n, consumeCount e s = some n ∧ emits n s t ∧ hasRoom n s = true := by
  obtain ⟨⟨-, -, -, n, hn, hroom⟩, heffect⟩ := h
  exact ⟨n, hn, consumeEffect_emits (s := popInput s) heffect ((consumeCount_popInput e s).trans hn), hroom⟩

/-- The enabled final step emits the count of R124, for which there is room. -/
theorem FinalStep.emission (h : FinalStep s t) : ∃ n, finalCount s = some n ∧ emits n s t ∧ hasRoom n s = true := by
  obtain ⟨⟨-, -, n, hn, hroom⟩, heffect⟩ := h
  exact ⟨n, hn, finalEffect_emits heffect hn, hroom⟩

/-- A turn of the engine passes, or takes a consume step or the final step (R121). -/
theorem engineTurn_steps (h : engineTurn s = .next t) : t = s ∨ (∃ e, ConsumeStep s e t) ∨ FinalStep s t := by
  rcases engineTurn_cases h with hpass | ⟨e, henabled, heffect⟩ | ⟨henabled, heffect⟩
  · exact .inl hpass
  · exact .inr (.inl ⟨e, henabled, heffect⟩)
  · exact .inr (.inr ⟨henabled, heffect⟩)

/-- Settles O34: a turn that passes emits nothing, and a taken one emits the count of R124, which it has room for. -/
theorem emissionIsAllOrNothing : Obligations.EmissionIsAllOrNothing := by
  intro s t h
  rcases engineTurn_steps h with rfl | ⟨e, hstep⟩ | hstep
  · exact ⟨[], by simp, by simp, by simp, id, fun hne => absurd rfl hne⟩
  · obtain ⟨n, hcount, hemits, hroom⟩ := hstep.emission
    obtain ⟨-, hlt, hhead, -⟩ := hstep.enabled
    have hfits := outq_fits_of_emits hemits hroom
    obtain ⟨vs, hq, hc, rfl, hle⟩ := hemits
    exact ⟨vs, hq, hc, hle, hfits, fun _ => .inl ⟨hlt, e, hhead, hcount⟩⟩
  · obtain ⟨n, hcount, hemits, hroom⟩ := hstep.emission
    obtain ⟨-, hend, -⟩ := hstep.enabled
    have hfits := outq_fits_of_emits hemits hroom
    obtain ⟨vs, hq, hc, rfl, hle⟩ := hemits
    exact ⟨vs, hq, hc, hle, hfits, fun _ => .inr ⟨hend, hcount⟩⟩

end Sys2Proof.Machine

/-! PROOF. What one step of the block can be (R10), with its cause and its frame: the inversion `Move` of `step`, and the
statements about the host's side that follow from it. -/

namespace Sys2Proof.Machine

variable {s t : State}

/-! ### The next step as a word -/

section
variable {w : HostWord} {rest : List Event} (hnext : s.pending = .host w :: rest)
include hnext

theorem not_engineMoves_of_host : engineMoves s = false := by simp [engineMoves, hnext]

theorem not_resetNext_of_host : ¬ resetNext s := by simp [resetNext, hnext]

theorem commandNext_iff (d : Word) : commandNext s d ↔ commandData w = some d := by simp [commandNext, hnext]

end

theorem busNext_iff {u : BitVec 7} {d : Word} {rest : List Event} (hnext : s.pending = .host (.bus u d) :: rest)
    (pattern : BitVec 7) (d' : Word) : busNext s pattern d' ↔ u &&& 0x7C = pattern ∧ d = d' := by
  simp only [busNext, hnext, List.cons.injEq, Event.host.injEq, HostWord.bus.injEq]
  constructor
  · rintro ⟨_, _, ⟨⟨rfl, rfl⟩, -⟩, hu⟩; exact ⟨hu, rfl⟩
  · rintro ⟨hu, rfl⟩; exact ⟨u, rest, ⟨⟨rfl, rfl⟩, rfl⟩, hu⟩

/-- A CMD write is no transaction of another register. -/
theorem not_busNext_of_command {d : Word} (hcommand : commandNext s d) {pattern : BitVec 7} (hp : pattern ≠ 0x48)
    (d' : Word) : ¬ busNext s pattern d' := by
  obtain ⟨w, rest, hnext, hdata⟩ := hcommand
  rintro ⟨u, rest', hnext', hu⟩
  obtain ⟨rfl, -⟩ : w = .bus u d' ∧ rest = rest' := by simpa [hnext] using hnext'
  rw [commandData, if_neg (hu ▸ hp)] at hdata
  cases hdata

/-- At most one command is next. -/
theorem commandNext_unique {d d' : Word} (h : commandNext s d) (h' : commandNext s d') : d = d' := by
  obtain ⟨w, rest, hnext, hdata⟩ := h
  rw [commandNext_iff hnext, hdata] at h'
  exact Option.some.inj h'

/-- A CMD write is a protocol error exactly when it is a command of an engaged block, NOP and ABORT apart (R89, R189). -/
theorem protocolErrorNext_of_command {d : Word} (h : commandNext s d) :
    protocolErrorNext s ↔ opcodeOf d ≠ 0x0 ∧ opcodeOf d ≠ 0xF ∧ s.phase ≠ .idle := by
  have apart {pattern : BitVec 7} (hp : pattern ≠ 0x48) (d' : Word) := not_busNext_of_command h hp d'
  constructor
  · rintro (⟨d', hbus, -⟩ | ⟨d', hbus, -⟩ | ⟨d', hbus, -⟩ | ⟨d', h', herror⟩)
    · exact absurd hbus (apart (by decide) d')
    · exact absurd hbus (apart (by decide) d')
    · exact absurd hbus (apart (by decide) d')
    · rwa [commandNext_unique h h']
  · exact fun herror => .inr (.inr (.inr ⟨d, h, herror⟩))

/-- What makes PERR 1 after a transaction that is no CMD write, by the register bits of its T (R26, R189). -/
theorem perr_cause_of_bus {u T : BitVec 7} {d : Word} {rest : List Event}
    (hnext : s.pending = .host (.bus u d) :: rest) (hT : u &&& 0x7C = T) (hcmd : T ≠ 0x48) :
    (protocolErrorNext s ∨ (s.perr = true ∧ ¬ ∃ d', busNext s 0x50 d' ∧ d'.getLsbD 5 = true)) ↔
      ((T = 0x64 ∧ s.inReady = false) ∨ (T = 0x28 ∧ s.outq = []) ∨ (T = 0x4C ∧ s.phase ≠ .idle)) ∨
        (s.perr = true ∧ ¬ (T = 0x50 ∧ d.getLsbD 5 = true)) := by
  simp only [protocolErrorNext, busNext_iff hnext, commandNext_iff hnext, commandData, hT, if_neg hcmd, and_assoc,
    exists_and_left, exists_eq_left', reduceCtorEq, false_and, exists_false, or_false]

/-! ### Host transactions that are no acting command -/

/-- What a host transaction does that is no command the block acts on: the fields it leaves, and the cause of each change
it makes. -/
structure QuietHost (s t : State) : Prop where
  host      : ∃ w rest, s.pending = .host w :: rest
  acc       : t.acc = s.acc := by rfl
  k         : t.k = s.k := by rfl
  need      : t.need = s.need := by rfl
  leadPos   : t.leadPos = s.leadPos := by rfl
  phase     : t.phase = s.phase := by rfl
  errCode   : t.errCode = s.errCode := by rfl
  errPos    : t.errPos = s.errPos := by rfl
  tail1     : t.tail1 = s.tail1 := by rfl
  ovf       : t.ovf = s.ovf := by rfl
  lstop     : t.lstop = s.lstop := by rfl
  inCount   : t.inCount = s.inCount := by rfl
  outCount  : t.outCount = s.outCount := by rfl
  opL       : t.opL = s.opL := by rfl
  modeL     : t.modeL = s.modeL := by rfl
  lenL      : t.lenL = s.lenL := by rfl
  cmdOpcode : t.cmdOpcode = s.cmdOpcode := by rfl
  cmdMode   : t.cmdMode = s.cmdMode := by rfl
  irqEn     : t.irqEn = s.irqEn ∨ ∃ d, busNext s 0x44 d ∧ t.irqEn = d.getLsbD 0 := by exact .inl rfl
  inLen     : t.inLen = s.inLen ∨ ∃ d, busNext s 0x4C d ∧ s.phase = .idle ∧ t.inLen = d := by exact .inl rfl
  done      : t.done = s.done ∨ (t.done = false ∧ ∃ d, busNext s 0x50 d ∧ d.getLsbD 1 = true) := by exact .inl rfl
  inq       : (t.inq = s.inq ∧ t.pushed = s.pushed) ∨ ∃ d, busNext s 0x64 d ∧ s.inReady = true ∧
                t.inq = s.inq ++ [d] ∧ t.pushed = s.pushed + 1 := by exact .inl ⟨rfl, rfl⟩
  outq      : t.outq = s.outq ∨ ∃ d, busNext s 0x28 d ∧ t.outq = s.outq.tail := by exact .inl rfl
  perr      : t.perr = true ↔ protocolErrorNext s ∨
                (s.perr = true ∧ ¬ ∃ d, busNext s 0x50 d ∧ d.getLsbD 5 = true)

/-- Every host transaction but a CMD write is quiet. -/
theorem quietHost_of_bus {u : BitVec 7} {d : Word} {rest : List Event}
    (hnext : s.pending = .host (.bus u d) :: rest) (hu : u &&& 0x7C ≠ 0x48)
    (h : HostStep { s with pending := rest } (.bus u d) t) : QuietHost s t := by
  have host : ∃ w rest, s.pending = .host w :: rest := ⟨_, _, hnext⟩
  have bus {pattern : BitVec 7} (hp : u &&& 0x7C = pattern) : busNext s pattern d := ⟨u, rest, hnext, hp⟩
  have perr {T : BitVec 7} (hT : u &&& 0x7C = T) := perr_cause_of_bus hnext hT (hT ▸ hu)
  cases h with
  | ignored _ _ hp =>
    obtain ⟨-, -, h4C, h50, h64, h28⟩ := hp
    exact { host, perr := by rw [perr rfl]; simp only [h4C, h50, h64, h28]; simp }
  | read _ _ v hp =>
    obtain ⟨-, -, h4C, h50, h64, h28⟩ := hp
    exact { host, perr := by rw [perr rfl]; simp only [h4C, h50, h64, h28]; simp }
  | ctrl _ _ hp => exact { host, irqEn := .inr ⟨d, bus hp, rfl⟩, perr := by rw [perr hp]; simp }
  | inLen _ _ hp hidle =>
    have noBusyWrite : s.phase ≠ .idle → s.perr = true := fun h => absurd hidle h
    exact { host, inLen := .inr ⟨d, bus hp, hidle, rfl⟩, perr := by rw [perr hp]; simpa using noBusyWrite }
  | inLenBusy _ _ hp hbusy =>
    exact { host, perr := ⟨fun _ => .inl (.inr (.inr (.inl ⟨d, bus hp, hbusy⟩))), fun _ => rfl⟩ }
  | status _ _ hp =>
    have done : (s.done && !d.getLsbD 1) = s.done ∨
        ((s.done && !d.getLsbD 1) = false ∧ ∃ d, busNext s 0x50 d ∧ d.getLsbD 1 = true) := by
      cases hd : d.getLsbD 1
      · exact .inl (by simp)
      · exact .inr ⟨by simp, d, bus hp, hd⟩
    exact { host, done, perr := by rw [perr hp]; simp }
  | push _ _ hp hready =>
    have hready : s.inReady = true := hready
    exact { host, inq := .inr ⟨d, bus hp, hready, rfl, rfl⟩, perr := by rw [perr hp]; simp [hready] }
  | pushDropped _ _ hp hready => exact { host, perr := ⟨fun _ => .inl (.inl ⟨d, bus hp, hready⟩), fun _ => rfl⟩ }
  | pop _ _ v rest' hp hq =>
    have hq : s.outq = v :: rest' := hq
    exact { host, outq := .inr ⟨d, bus hp, rfl⟩, perr := by rw [perr hp]; simp [hq] }
  | popEmpty _ _ hp hq => exact { host, perr := ⟨fun _ => .inl (.inr (.inl ⟨d, bus hp, hq⟩)), fun _ => rfl⟩ }
  | busCommand _ _ _ hp => exact absurd hp hu

/-! ### The inversion of a step -/

/-- What one step does: a turn that passes, a consume step, a final step, the reset, a command the block acts on, or a
quiet host transaction. -/
inductive Move (s : State) : State → Prop
  | pass (p) : engineMoves s = true → Move s { s with pending := p }
  | consume (p e u) : engineMoves s = true → ConsumeStep { s with pending := p } e u → Move s u
  | final (p u) : engineMoves s = true → FinalStep { s with pending := p } u → Move s u
  | reset (p) : resetNext s → Move s { State.reset with pending := p }
  | abort (p d) : commandNext s d → opcodeOf d = 0xF → Move s (abortOperation (modeOf d) { s with pending := p })
  | start (p d) : commandNext s d → 1 ≤ (opcodeOf d).toNat → (opcodeOf d).toNat ≤ 4 → s.phase = .idle →
      Move s (start (opcodeOf d) (modeOf d) { s with pending := p })
  | illegal (p d) : commandNext s d → 5 ≤ (opcodeOf d).toNat → (opcodeOf d).toNat ≤ 14 → s.phase = .idle →
      Move s (illegalCommand (opcodeOf d) (modeOf d) { s with pending := p })
  | quiet (u) : QuietHost s u → Move s u

theorem move_of_engineTurn {p : List Event} (hengine : engineMoves s = true)
    (h : engineTurn { s with pending := p } = .next t) : Move s t := by
  rcases engineTurn_steps h with rfl | ⟨e, hstep⟩ | hstep
  · exact .pass p hengine
  · exact .consume p e t hengine hstep
  · exact .final p t hengine hstep

theorem move_of_command {d : Word} {p : List Event} (hcommand : commandNext s d)
    (h : exec (decode (.cmd d)) { s with pending := p } = .next t) : Move s t := by
  have host : ∃ w rest, s.pending = .host w :: rest := by
    obtain ⟨w, rest, hnext, -⟩ := hcommand
    exact ⟨w, rest, hnext⟩
  have perr := protocolErrorNext_of_command hcommand
  have noAcknowledge : ¬ ∃ d', busNext s 0x50 d' ∧ d'.getLsbD 5 = true :=
    fun ⟨d', hbus, _⟩ => not_busNext_of_command hcommand (by decide) d' hbus
  rcases command_cases h with ⟨ho, rfl⟩ | ⟨ho, rfl⟩ | ⟨h0, hF, hbusy, rfl⟩ | ⟨hlo, hhi, hidle, rfl⟩ |
    ⟨hlo, hhi, hidle, rfl⟩
  · have noError : ¬ protocolErrorNext s := fun herror => (perr.mp herror).1 ho
    exact .quiet _ { host, perr := by simp only [noError, noAcknowledge, false_or, not_false_eq_true, and_true] }
  · exact .abort p d hcommand ho
  · exact .quiet _ { host, perr := ⟨fun _ => .inl (perr.mpr ⟨h0, hF, hbusy⟩), fun _ => rfl⟩ }
  · exact .start p d hcommand hlo hhi hidle
  · exact .illegal p d hcommand hlo hhi hidle

/-- Every step that answers next is one of the cases of `Move`. -/
theorem step_move (h : step s = .next t) : Move s t := by
  rcases step_cases h with ⟨hnext, h⟩ | ⟨rest, ⟨hnext, h⟩ | ⟨w, hnext, h⟩ | ⟨hnext, rfl⟩⟩
  · exact move_of_engineTurn (p := s.pending) (by simp [engineMoves, hnext]) h
  · exact move_of_engineTurn (by simp [engineMoves, hnext]) h
  · have hstep := host_cases h
    cases w with
    | cmd d => exact move_of_command ⟨_, _, hnext, rfl⟩ h
    | bus u d =>
      by_cases hu : u &&& 0x7C = 0x48
      · cases hstep with
        | busCommand _ _ _ _ hcommand => exact move_of_command ⟨_, _, hnext, if_pos hu⟩ hcommand
        | ignored _ _ hp => exact absurd hu hp.2.1
        | read _ _ _ hp => exact absurd hu hp.2.1
        | ctrl _ _ hp | inLen _ _ hp | inLenBusy _ _ hp | status _ _ hp | push _ _ hp | pushDropped _ _ hp
        | pop _ _ _ _ hp | popEmpty _ _ hp => exact absurd (hu.symm.trans hp) (by decide)
      · exact .quiet t (quietHost_of_bus hnext hu hstep)
  · exact .reset rest ⟨rest, hnext⟩

end Sys2Proof.Machine

/-! PROOF. What every step keeps (10_state.md, 20_memory.md, 60_exceptions.md): each statement by the cases of `Move`, the
causes of a host transaction's changes from `QuietHost`, those of the engine's from its frames. -/

namespace Sys2Proof.Machine

variable {s t : State} {e pos : Word}

/-! ### One agent moves at a time (R10) -/

/-- The next step is a host transaction. -/
def hostNext (s : State) : Prop := ∃ w rest, s.pending = .host w :: rest

theorem hostNext_of_bus {pattern : BitVec 7} {d : Word} (h : busNext s pattern d) : hostNext s := by
  obtain ⟨u, rest, hnext, -⟩ := h
  exact ⟨_, rest, hnext⟩

theorem hostNext_of_command {d : Word} (h : commandNext s d) : hostNext s := by
  obtain ⟨w, rest, hnext, -⟩ := h
  exact ⟨w, rest, hnext⟩

theorem hostNext_of_protocolError (h : protocolErrorNext s) : hostNext s := by
  rcases h with ⟨d, h, -⟩ | ⟨d, h, -⟩ | ⟨d, h, -⟩ | ⟨d, h, -⟩
  · exact hostNext_of_bus h
  · exact hostNext_of_bus h
  · exact hostNext_of_bus h
  · exact hostNext_of_command h

theorem not_hostNext_of_engine (h : engineMoves s = true) : ¬ hostNext s := by
  rintro ⟨w, rest, hnext⟩
  rw [not_engineMoves_of_host hnext] at h
  cases h

theorem not_resetNext_of_engine (h : engineMoves s = true) : ¬ resetNext s := by
  rintro ⟨rest, hnext⟩
  simp [engineMoves, hnext] at h

theorem not_hostNext_of_reset (h : resetNext s) : ¬ hostNext s := by
  rintro ⟨w, rest, hnext⟩
  exact not_resetNext_of_host hnext h

/-! ### The commands the block acts on -/

theorem actingCommand_of_abort {d : Word} (h : commandNext s d) (ho : opcodeOf d = 0xF) : actingCommandNext s d :=
  ⟨h, by simp [ho], .inl ho⟩

theorem actingCommand_of_idle {d : Word} (h : commandNext s d) (ho : 1 ≤ (opcodeOf d).toNat) (hidle : s.phase = .idle) :
    actingCommandNext s d :=
  ⟨h, fun h0 => by simp [h0] at ho, .inr hidle⟩

/-! ### What an engine step changes of PHASE and of the error record -/

/-- A consume step leaves PHASE, or goes from RUN to DRAIN, as only the decoders do (R38). -/
theorem consume_phase (h : ConsumeMove e pos s t) : t.phase = s.phase ∨
    (s.phase = .run ∧ t.phase = .drain ∧ (codecOf s.opL = some .b64dec ∨ codecOf s.opL = some .u8dec)) := by
  cases h
  case pad hrun hc _ | badChar hrun hc _ _ => exact .inr ⟨hrun, by simp, .inl hc⟩
  case badLead hrun hc _ _ _ | stopLead hrun hc _ _ _ => exact .inr ⟨hrun, by simp, .inr hc⟩
  case codePoint => exact .inl (by rw [u8eConsume_eq])
  all_goals exact .inl (by simp [u8dLead])

/-- An engine error is recorded when none is, and leaves a recorded one (R188). -/
theorem raiseEngineError_record (c : ErrCode) (p : Word) (s : State) :
    ((raiseEngineError c p s).errCode = s.errCode ∧ (raiseEngineError c p s).errPos = s.errPos) ∨
      (s.errCode = .none ∧ (raiseEngineError c p s).errCode = c) := by
  by_cases h : s.errCode = .none
  · exact .inr ⟨h, by simp [h]⟩
  · exact .inl ⟨by simp [h], by simp [h]⟩

/-- A consume step leaves the error record, or records an error of the running strict or reject decoder (R150, R165). -/
theorem consume_record (h : ConsumeMove e pos s t) : (t.errCode = s.errCode ∧ t.errPos = s.errPos) ∨
    (s.phase = .run ∧ s.errCode = .none ∧ s.modeL = true ∧ (t.errCode = .u8Lead ∨ t.errCode = .b64Char)) := by
  cases h
  case badChar hrun _ _ hmode =>
    rcases raiseEngineError_record .b64Char pos (setGroup 0 0 s) with hkeep | ⟨hnone, hcode⟩
    · exact .inl hkeep
    · exact .inr ⟨hrun, hnone, hmode, .inr hcode⟩
  case badLead hrun _ _ _ hmode =>
    rcases raiseEngineError_record .u8Lead pos s with hkeep | ⟨hnone, hcode⟩
    · exact .inl hkeep
    · exact .inr ⟨hrun, hnone, hmode, .inl hcode⟩
  case pad => exact .inl (by rw [b64dFlush_eq]; exact ⟨rfl, rfl⟩)
  case codePoint => exact .inl (by rw [u8eConsume_eq]; exact ⟨rfl, rfl⟩)
  all_goals exact .inl (by simp [u8dLead])

/-- A final step leaves the error record, or records the truncation of the running strict decoder (R168). -/
theorem final_record (h : FinalMove s t) : (t.errCode = s.errCode ∧ t.errPos = s.errPos) ∨
    (s.phase = .run ∧ s.errCode = .none ∧ s.modeL = true ∧ t.errCode = .u8Trunc) := by
  cases h
  case truncated hrun _ _ hmode =>
    rcases raiseEngineError_record .u8Trunc s.leadPos (setSequence 0 0 s) with hkeep | ⟨hnone, hcode⟩
    · exact .inl hkeep
    · exact .inr ⟨hrun, hnone, hmode, hcode⟩
  case flush => exact .inl (by rw [b64dFlush_eq]; exact ⟨rfl, rfl⟩)
  all_goals exact .inl (by simp)

/-! ### A step that is the engine's, or a host transaction that commands nothing -/

/-- What no turn of the engine changes: the host's registers, PERR and the latches. -/
structure EngineKeeps (s t : State) : Prop where
  irqEn     : t.irqEn = s.irqEn
  cmdOpcode : t.cmdOpcode = s.cmdOpcode
  cmdMode   : t.cmdMode = s.cmdMode
  inLen     : t.inLen = s.inLen
  perr      : t.perr = s.perr
  opL       : t.opL = s.opL
  modeL     : t.modeL = s.modeL
  lenL      : t.lenL = s.lenL

theorem ConsumeStep.keeps {p : List Event} (h : ConsumeStep { s with pending := p } e t) : EngineKeeps s t := by
  have frame := h.frame
  exact ⟨frame.irqEn, frame.cmdOpcode, frame.cmdMode, frame.inLen, frame.perr, frame.opL, frame.modeL, frame.lenL⟩

theorem FinalStep.keeps {p : List Event} (h : FinalStep { s with pending := p } t) : EngineKeeps s t := by
  have frame := h.frame
  exact ⟨frame.irqEn, frame.cmdOpcode, frame.cmdMode, frame.inLen, frame.perr, frame.opL, frame.modeL, frame.lenL⟩

/-- With no acting command and no reset next, a step is the engine's, which keeps the registers, PERR and the latches, and
changes the error record only to record a first error, or it is a quiet host transaction. -/
theorem step_uncommanded (h : step s = .next t) (hacting : ∀ d, ¬ actingCommandNext s d) (hreset : ¬ resetNext s) :
    (engineMoves s = true ∧ EngineKeeps s t ∧ ((t.errCode = s.errCode ∧ t.errPos = s.errPos) ∨
      (s.phase = .run ∧ s.errCode = .none ∧ s.modeL = true ∧
        (t.errCode = .u8Trunc ∨ t.errCode = .u8Lead ∨ t.errCode = .b64Char)))) ∨ QuietHost s t := by
  cases step_move h with
  | pass p hengine => exact .inl ⟨hengine, ⟨rfl, rfl, rfl, rfl, rfl, rfl, rfl, rfl⟩, .inl ⟨rfl, rfl⟩⟩
  | consume p e _ hengine hstep =>
    refine .inl ⟨hengine, hstep.keeps, ?_⟩
    exact (consume_record hstep.move).imp_right
      fun ⟨hrun, hnone, hmode, hcode⟩ => ⟨hrun, hnone, hmode, .inr hcode⟩
  | final p _ hengine hstep =>
    refine .inl ⟨hengine, hstep.keeps, ?_⟩
    exact (final_record hstep.move).imp_right
      fun ⟨hrun, hnone, hmode, hcode⟩ => ⟨hrun, hnone, hmode, .inl hcode⟩
  | reset p hnext => exact absurd hnext hreset
  | abort p d hcommand ho => exact absurd (actingCommand_of_abort hcommand ho) (hacting d)
  | start p d hcommand hlo _ hidle => exact absurd (actingCommand_of_idle hcommand hlo hidle) (hacting d)
  | illegal p d hcommand hlo _ hidle =>
    exact absurd (actingCommand_of_idle hcommand (Nat.le_trans (by decide) hlo) hidle) (hacting d)
  | quiet _ hquiet => exact .inr hquiet

/-! ### The statements -/

/-- Settles O36: `step` decodes and runs a host word, and `withFetchWord` places the word that `decodeTableWord` reads. -/
theorem stepRunsTheDecodedInstruction : Obligations.StepRunsTheDecodedInstruction := by
  have runs (s : State) (w : HostWord) (rest : List Event) (hnext : s.pending = .host w :: rest) :
      step s = exec (decode w) { s with pending := rest } := by
    simp only [step, hnext]
  refine ⟨runs, fun s nbits n i hi => ?_⟩
  unfold decodeTableWord at hi
  unfold State.withFetchWord
  cases hword : readTableWord nbits n with
  | error r => rw [hword] at hi; cases hi
  | ok w =>
    rw [hword] at hi
    cases hi
    exact runs (s.withNext w) w s.pending rfl

/-- Settles O37: an engine entry and an empty list both give the engine the turn. -/
theorem stepGivesTheEngineItsTurn : Obligations.StepGivesTheEngineItsTurn :=
  ⟨fun s rest hnext => by simp only [step, hnext], fun s hnext => by simp only [step, hnext]⟩

/-- Settles O38: the reset answers the reset state, whose fields are R202's. -/
theorem resetSetsEveryField : Obligations.ResetSetsEveryField :=
  fun s rest hnext => by simp only [step, hnext, State.reset]

/-- Settles O45, by the cases of a step. -/
theorem phaseTransitions : Obligations.PhaseTransitions := by
  intro s t h hchange
  cases step_move h with
  | pass p hengine => exact absurd rfl hchange
  | consume p e _ hengine hstep =>
    obtain ⟨hrun, hdrain, -⟩ := (consume_phase hstep.move).resolve_left hchange
    exact .inr (.inl ⟨hrun, hdrain, hengine⟩)
  | final p _ hengine hstep =>
    have frame := hstep.frame
    exact .inr (.inr (.inl ⟨frame.idle, frame.done, hengine⟩))
  | reset p hnext => exact .inr (.inr (.inr ⟨rfl, rfl, .inr hnext⟩))
  | abort p d hcommand ho => exact .inr (.inr (.inr ⟨rfl, rfl, .inl ⟨d, hcommand, ho⟩⟩))
  | start p d hcommand hlo hhi hidle => exact .inl ⟨hidle, rfl, d, hcommand, hlo, hhi⟩
  | illegal p d hcommand _ _ hidle => exact absurd hidle.symm hchange
  | quiet _ hquiet => exact absurd hquiet.phase hchange

/-- A step of another agent than the host leaves PERR. -/
theorem perr_cause_of_not_host (hhost : ¬ hostNext s) (hreset : ¬ resetNext s) (hperr : t.perr = s.perr) :
    t.perr = true ↔ protocolErrorNext s ∨
      (s.perr = true ∧ ¬ resetNext s ∧ ¬ ∃ d, busNext s 0x50 d ∧ d.getLsbD 5 = true) := by
  have noError : ¬ protocolErrorNext s := fun h => hhost (hostNext_of_protocolError h)
  have noAcknowledge : ¬ ∃ d, busNext s 0x50 d ∧ d.getLsbD 5 = true := fun ⟨_, h, _⟩ => hhost (hostNext_of_bus h)
  simp only [hperr, noError, hreset, noAcknowledge, false_or, not_false_eq_true, and_true]

/-- A command the block acts on leaves PERR. -/
theorem perr_cause_of_command {d : Word} (hcommand : commandNext s d)
    (hacts : ¬ (opcodeOf d ≠ 0x0 ∧ opcodeOf d ≠ 0xF ∧ s.phase ≠ .idle)) (hperr : t.perr = s.perr) :
    t.perr = true ↔ protocolErrorNext s ∨
      (s.perr = true ∧ ¬ resetNext s ∧ ¬ ∃ d, busNext s 0x50 d ∧ d.getLsbD 5 = true) := by
  have noError : ¬ protocolErrorNext s := fun h => hacts ((protocolErrorNext_of_command hcommand).mp h)
  have noReset : ¬ resetNext s := fun h => not_hostNext_of_reset h (hostNext_of_command hcommand)
  have noAcknowledge : ¬ ∃ d', busNext s 0x50 d' ∧ d'.getLsbD 5 = true :=
    fun ⟨d', hbus, _⟩ => not_busNext_of_command hcommand (by decide) d' hbus
  simp only [hperr, noError, noReset, noAcknowledge, false_or, not_false_eq_true, and_true]

/-- Settles O46: the host's quiet transactions by their cause, and no other step touches PERR but the reset. -/
theorem perrHasFourCauses : Obligations.PerrHasFourCauses := by
  intro s t h
  cases step_move h with
  | pass p hengine => exact perr_cause_of_not_host (not_hostNext_of_engine hengine) (not_resetNext_of_engine hengine) rfl
  | consume p e _ hengine hstep =>
    exact perr_cause_of_not_host (not_hostNext_of_engine hengine) (not_resetNext_of_engine hengine)
      hstep.keeps.perr
  | final p _ hengine hstep =>
    exact perr_cause_of_not_host (not_hostNext_of_engine hengine) (not_resetNext_of_engine hengine)
      hstep.keeps.perr
  | reset p hnext =>
    have noError : ¬ protocolErrorNext s := fun h => not_hostNext_of_reset hnext (hostNext_of_protocolError h)
    simp [State.reset, noError, hnext]
  | abort p d hcommand ho => exact perr_cause_of_command hcommand (fun h => h.2.1 ho) rfl
  | start p d hcommand _ _ hidle | illegal p d hcommand _ _ hidle =>
    exact perr_cause_of_command hcommand (fun h => h.2.2 hidle) rfl
  | quiet _ hquiet =>
    obtain ⟨w, rest, hnext⟩ := hquiet.host
    rw [hquiet.perr]
    simp only [not_resetNext_of_host hnext, not_false_eq_true, true_and]

/-- Settles O47, by the cases of a step. -/
theorem doneHasTwoCauses : Obligations.DoneHasTwoCauses := by
  intro s t h
  cases step_move h with
  | pass p hengine => exact ⟨fun h0 h1 => by simp [h0] at h1, fun h1 h0 => by simp [h1] at h0⟩
  | consume p e _ hengine hstep =>
    have hdone : t.done = s.done := hstep.frame.done
    exact ⟨fun h0 h1 => by simp [hdone, h0] at h1, fun h1 h0 => by simp [hdone, h1] at h0⟩
  | final p _ hengine hstep =>
    have frame := hstep.frame
    exact ⟨fun _ _ => .inl ⟨hengine, hstep.busy, frame.idle⟩, fun _ h0 => by simp [frame.done] at h0⟩
  | reset p hnext => exact ⟨fun _ h1 => absurd h1 Bool.false_ne_true, fun _ _ => .inr (.inl hnext)⟩
  | abort p d hcommand ho =>
    exact ⟨fun _ h1 => absurd h1 Bool.false_ne_true,
      fun _ _ => .inr (.inr ⟨d, actingCommand_of_abort hcommand ho, .inr ho⟩)⟩
  | start p d hcommand hlo hhi hidle =>
    exact ⟨fun _ h1 => absurd h1 Bool.false_ne_true,
      fun _ _ => .inr (.inr ⟨d, actingCommand_of_idle hcommand hlo hidle, .inl hhi⟩)⟩
  | illegal p d hcommand hlo hhi hidle =>
    exact ⟨fun _ _ => .inr ⟨hidle, d, hcommand, hlo, hhi⟩, fun _ h0 => absurd h0.symm Bool.false_ne_true⟩
  | quiet _ hquiet =>
    rcases hquiet.done with hdone | ⟨hdone, hcause⟩
    · exact ⟨fun h0 h1 => by simp [hdone, h0] at h1, fun h1 h0 => by simp [hdone, h1] at h0⟩
    · exact ⟨fun _ h1 => by simp [hdone] at h1, fun _ _ => .inl hcause⟩

/-- Settles O48: the engine keeps the three registers, the acting commands write CMD, and CTRL and IN_LEN have their own
writes. -/
theorem controlRegistersHaveOneWriter : Obligations.ControlRegistersHaveOneWriter := by
  intro s t h
  cases step_move h with
  | pass p hengine => exact .inr ⟨.inl rfl, .inl rfl, .inl ⟨rfl, rfl⟩⟩
  | consume p e _ hengine hstep =>
    have kept := hstep.keeps
    exact .inr ⟨.inl kept.irqEn, .inl kept.inLen, .inl ⟨kept.cmdOpcode, kept.cmdMode⟩⟩
  | final p _ hengine hstep =>
    have kept := hstep.keeps
    exact .inr ⟨.inl kept.irqEn, .inl kept.inLen, .inl ⟨kept.cmdOpcode, kept.cmdMode⟩⟩
  | reset p hnext => exact .inl hnext
  | abort p d hcommand ho =>
    exact .inr ⟨.inl rfl, .inl rfl, .inr ⟨d, actingCommand_of_abort hcommand ho, ho.symm, rfl⟩⟩
  | start p d hcommand hlo _ hidle =>
    exact .inr ⟨.inl rfl, .inl rfl, .inr ⟨d, actingCommand_of_idle hcommand hlo hidle, rfl, rfl⟩⟩
  | illegal p d hcommand hlo _ hidle =>
    exact .inr ⟨.inl rfl, .inl rfl,
      .inr ⟨d, actingCommand_of_idle hcommand (Nat.le_trans (by decide) hlo) hidle, rfl, rfl⟩⟩
  | quiet _ hquiet => exact .inr ⟨hquiet.irqEn, hquiet.inLen, .inl ⟨hquiet.cmdOpcode, hquiet.cmdMode⟩⟩

/-- Settles O49: neither the engine nor a quiet transaction writes a latch. -/
theorem latchesHoldDuringAnOperation : Obligations.LatchesHoldDuringAnOperation := by
  intro s t h hacting hreset
  rcases step_uncommanded h hacting hreset with ⟨-, hkeeps, -⟩ | hquiet
  · exact ⟨hkeeps.opL, hkeeps.modeL, hkeeps.lenL⟩
  · exact ⟨hquiet.opL, hquiet.modeL, hquiet.lenL⟩

/-- Settles O50: a host transaction that is no acting command is quiet. -/
theorem hostTransactionsLeaveTheDatapath : Obligations.HostTransactionsLeaveTheDatapath := by
  intro s t w rest hnext h hacting
  rcases step_uncommanded h hacting (not_resetNext_of_host hnext) with ⟨hengine, -⟩ | hquiet
  · exact absurd ⟨w, rest, hnext⟩ (not_hostNext_of_engine hengine)
  · exact ⟨hquiet.acc, hquiet.k, hquiet.need, hquiet.leadPos, hquiet.phase, hquiet.errCode, hquiet.errPos,
      hquiet.tail1, hquiet.ovf, hquiet.lstop, hquiet.inCount, hquiet.outCount⟩

/-- Settles O51: the engine pops INQ and appends to OUTQ, the host pushes and pops, and a command or reset empties. -/
theorem queuesMoveOneWay : Obligations.QueuesMoveOneWay := by
  intro s t h
  cases step_move h with
  | pass p hengine => exact ⟨.inl rfl, .inl rfl⟩
  | consume p e _ hengine hstep =>
    obtain ⟨n, -, ⟨vs, hq, -⟩, -⟩ := hstep.emission
    exact ⟨.inr (.inr (.inl ⟨hengine, hstep.frame.inq⟩)), .inr (.inr (.inl ⟨hengine, vs, hq⟩))⟩
  | final p _ hengine hstep =>
    obtain ⟨n, -, ⟨vs, hq, -⟩, -⟩ := hstep.emission
    exact ⟨.inl hstep.frame.inq, .inr (.inr (.inl ⟨hengine, vs, hq⟩))⟩
  | reset p hnext => exact ⟨.inr (.inr (.inr ⟨rfl, .inr hnext⟩)), .inr (.inr (.inr ⟨rfl, .inr hnext⟩))⟩
  | abort p d hcommand ho =>
    have acts := actingCommand_of_abort hcommand ho
    exact ⟨.inr (.inr (.inr ⟨rfl, .inl ⟨d, acts⟩⟩)), .inr (.inr (.inr ⟨rfl, .inl ⟨d, acts⟩⟩))⟩
  | start p d hcommand hlo _ hidle =>
    have acts := actingCommand_of_idle hcommand hlo hidle
    exact ⟨.inr (.inr (.inr ⟨rfl, .inl ⟨d, acts⟩⟩)), .inr (.inr (.inr ⟨rfl, .inl ⟨d, acts⟩⟩))⟩
  | illegal p d hcommand hlo _ hidle =>
    have acts := actingCommand_of_idle hcommand (Nat.le_trans (by decide) hlo) hidle
    exact ⟨.inr (.inr (.inr ⟨rfl, .inl ⟨d, acts⟩⟩)), .inr (.inr (.inr ⟨rfl, .inl ⟨d, acts⟩⟩))⟩
  | quiet _ hquiet =>
    refine ⟨?_, hquiet.outq.imp_right .inl⟩
    rcases hquiet.inq with ⟨hsame, -⟩ | ⟨d, hbus, hready, hpush, -⟩
    · exact .inl hsame
    · exact .inr (.inl ⟨d, hbus, hready, hpush⟩)

/-- Settles O52: a quiet transaction leaves the record, and the engine records a first error only. -/
theorem firstErrorWins : Obligations.FirstErrorWins := by
  intro s t h hacting hreset
  rcases step_uncommanded h hacting hreset with ⟨hengine, -, hkeep | hrecords⟩ | hquiet
  · exact .inl hkeep
  · exact .inr ⟨hengine, hrecords⟩
  · exact .inl ⟨hquiet.errCode, hquiet.errPos⟩

/-- IRQ is the conjunction of IRQ_EN and DONE (R192). -/
theorem irq_iff (s : State) : s.irq = true ↔ s.irqEn = true ∧ s.done = true := by simp [State.irq]

/-- Settles O53: IRQ rises with DONE, whose causes are O47's, or with IRQ_EN, which only a CTRL write sets. -/
theorem irqRisesForThreeReasons : Obligations.IrqRisesForThreeReasons := by
  intro s t h hlow hhigh
  obtain ⟨henT, hdoneT⟩ := (irq_iff t).mp hhigh
  have apart : s.irqEn = true → s.done = false := by
    intro hen
    simpa [State.irq, hen] using hlow
  obtain hreset | ⟨hen, -, -⟩ := controlRegistersHaveOneWriter s t h
  · cases step_move h with
    | reset p _ => cases henT
    | pass _ hengine | consume _ _ _ hengine | final _ _ hengine => exact absurd hreset (not_resetNext_of_engine hengine)
    | abort _ _ hcommand | start _ _ hcommand | illegal _ _ hcommand =>
      exact absurd (hostNext_of_command hcommand) (not_hostNext_of_reset hreset)
    | quiet _ hquiet => exact absurd hquiet.host (not_hostNext_of_reset hreset)
  · by_cases hdone : s.done = true
    case pos =>
      rcases hen with hsame | ⟨d, hbus, hd⟩
      · exact absurd hdone (by simp [apart (hsame ▸ henT)])
      · exact .inr (.inr ⟨hdone, d, hbus, hd ▸ henT⟩)
    case neg =>
      have hdone : s.done = false := by simpa using hdone
      have enabled (hno : ∀ d, ¬ busNext s 0x44 d) : s.irqEn = true := by
        obtain hsame | ⟨d, hbus, -⟩ := hen
        · exact hsame ▸ henT
        · exact absurd hbus (hno d)
      rcases (doneHasTwoCauses s t h).1 hdone hdoneT with ⟨hengine, hbusy, hidle⟩ | ⟨hidle, d, hcommand, hrange⟩
      · exact .inl ⟨hengine, enabled fun _ hbus => not_hostNext_of_engine hengine (hostNext_of_bus hbus), hbusy, hidle⟩
      · exact .inr (.inl ⟨enabled (not_busNext_of_command hcommand (by decide)), hidle, d, hcommand, hrange⟩)

end Sys2Proof.Machine

/-! PROOF. The invariant (10_state.md, 41_engine.md, 60_exceptions.md): what a consume step and a final step do to each of
its parts, and then every step of every agent. -/

namespace Sys2Proof.Machine

variable {s t : State} {e pos : Word}

/-! ### The datapath (R136, R144, R158, R174) -/

/-- Shifting `m` bits into an accumulator of `n` bits gives one of `n + m` bits. -/
theorem shiftIn_lt {m n : Nat} {a : BitVec 24} (v : BitVec m) (h : a.toNat < 2 ^ n) :
    ((a <<< m) ||| v.setWidth 24).toNat < 2 ^ (n + m) := by
  rw [BitVec.toNat_or, BitVec.toNat_shiftLeft, BitVec.toNat_setWidth, Nat.shiftLeft_eq]
  refine Nat.or_lt_two_pow ((Nat.mod_le _ _).trans_lt ?_) ((Nat.mod_le _ _).trans_lt ?_)
  · rw [Nat.pow_add]
    exact Nat.mul_lt_mul_of_pos_right h (Nat.two_pow_pos m)
  · exact v.isLt.trans_le (Nat.pow_le_pow_right (by decide) (Nat.le_add_left m n))

theorem shiftIn8_lt {n : Nat} {a : BitVec 24} (b : Byte) (h : a.toNat < 2 ^ n) : (shiftIn8 a b).toNat < 2 ^ (n + 8) :=
  shiftIn_lt b h

theorem shiftIn6_lt {n : Nat} {a : BitVec 24} (v : Sextet) (h : a.toNat < 2 ^ n) :
    (shiftIn6 a v).toNat < 2 ^ (n + 6) :=
  shiftIn_lt v h

/-- With fewer than three elements in the open group, K counts one more. -/
theorem group_count_succ : ∀ k : BitVec 2, k ≠ 3 → (k + 1).toNat = k.toNat + 1 := by decide

/-- The datapath of a running Base64 encoder. -/
theorem datapathOk_b64enc (hc : codecOf t.opL = some .b64enc) (hrun : t.phase = .run)
    (hgroup : t.k.toNat ≤ 2 ∧ t.acc.toNat < 2 ^ (8 * t.k.toNat)) (hrest : t.need = 0 ∧ t.leadPos = 0) :
    DatapathOk t := by
  constructor <;> simp [hc, hrun, hgroup, hrest]

/-- The datapath of a running Base64 decoder. -/
theorem datapathOk_b64dec (hc : codecOf t.opL = some .b64dec) (hrun : t.phase = .run)
    (hgroup : t.acc.toNat < 2 ^ (6 * t.k.toNat)) (hrest : t.need = 0 ∧ t.leadPos = 0) : DatapathOk t := by
  constructor <;> simp [hc, hrun, hgroup, hrest]

/-- The datapath of a running UTF-8 decoder. -/
theorem datapathOk_u8dec (hc : codecOf t.opL = some .u8dec) (hrun : t.phase = .run) (hk : t.k = 0)
    (hsequence : (t.need = 0 → t.acc = 0) ∧ (t.need ≠ 0 → t.acc.toNat < 2 ^ (21 - 6 * t.need.toNat))) :
    DatapathOk t := by
  constructor <;> simp_all

/-- The datapath of a draining decoder. -/
theorem datapathOk_drain (hc : codecOf t.opL = some .b64dec ∧ t.leadPos = 0 ∨ codecOf t.opL = some .u8dec)
    (hdrain : t.phase = .drain) (hclear : t.acc = 0 ∧ t.k = 0 ∧ t.need = 0) : DatapathOk t := by
  obtain ⟨hacc, hk, hneed⟩ := hclear
  rcases hc with ⟨hc, hlead⟩ | hc <;> constructor <;> simp [*]

/-- Nothing is asked of the datapath of an idle block. -/
theorem datapathOk_idle (hidle : t.phase = .idle) : DatapathOk t := by
  constructor <;> simp [hidle]

/-- A consume step keeps the datapath's part of the invariant. -/
theorem consume_datapath (h : ConsumeMove e pos s t) (hi : DatapathOk s) : DatapathOk t := by
  cases h
  case discard => exact hi
  case encodeByte hrun hc hk =>
    obtain ⟨-, hacc⟩ := hi.encode hrun hc
    have hrest := hi.base64 (by simp [hrun]) (.inl hc)
    have hcount := group_count_succ s.k (by rcases hk with hk | hk <;> simp [hk])
    have hle : (s.k + 1).toNat ≤ 2 := by rcases hk with hk | hk <;> simp [hk]
    refine datapathOk_b64enc hc hrun ⟨hle, ?_⟩ hrest
    rw [setGroup_k, setGroup_acc, hcount, Nat.mul_add]
    exact shiftIn8_lt (byteOf e) hacc
  case encodeGroup hrun hc hk =>
    exact datapathOk_b64enc (by simpa using hc) (by simpa using hrun) (by simp)
      (by simpa using hi.base64 (by simp [hrun]) (.inl hc))
  case sextet v hrun hc _ hk =>
    refine datapathOk_b64dec hc hrun ?_ (hi.base64 (by simp [hrun]) (.inr hc))
    rw [setGroup_k, setGroup_acc, group_count_succ s.k hk, Nat.mul_add]
    exact shiftIn6_lt v (hi.decode hrun hc)
  case decodeGroup v hrun hc _ hk =>
    exact datapathOk_b64dec (by simpa using hc) (by simpa using hrun) (by simp)
      (by simpa using hi.base64 (by simp [hrun]) (.inr hc))
  case pad hrun hc _ =>
    obtain ⟨hneed, hlead⟩ := hi.base64 (by simp [hrun]) (.inr hc)
    rw [b64dFlush_eq]
    exact datapathOk_drain (.inl ⟨hc, hlead⟩) rfl ⟨rfl, rfl, hneed⟩
  case badChar hrun hc _ _ =>
    obtain ⟨hneed, hlead⟩ := hi.base64 (by simp [hrun]) (.inr hc)
    exact datapathOk_drain (.inl ⟨by simpa using hc, by simpa using hlead⟩) (by simp) (by simpa using hneed)
  case ascii v hrun hc hneed _ =>
    exact datapathOk_u8dec hc hrun (hi.utf8K (by simp [hrun]) hc) (hi.utf8 hrun hc)
  case lead2 v hrun hc _ _ =>
    refine datapathOk_u8dec hc hrun (hi.utf8K (by simp [hrun]) hc) ?_
    have := v.isLt
    simp [u8dLead]; omega
  case lead3 v hrun hc _ _ =>
    refine datapathOk_u8dec hc hrun (hi.utf8K (by simp [hrun]) hc) ?_
    have := v.isLt
    simp [u8dLead]; omega
  case lead4 v hrun hc _ _ =>
    refine datapathOk_u8dec hc hrun (hi.utf8K (by simp [hrun]) hc) ?_
    have := v.isLt
    simp [u8dLead]; omega
  case badLead hrun hc hneed _ _ =>
    have hacc := (hi.utf8 hrun hc).1 hneed
    have hk := hi.utf8K (by simp [hrun]) hc
    exact datapathOk_drain (.inr (by simpa using hc)) (by simp) (by simp [hacc, hk, hneed])
  case stopLead hrun hc hneed _ _ =>
    exact datapathOk_drain (.inr hc) rfl ⟨(hi.utf8 hrun hc).1 hneed, hi.utf8K (by simp [hrun]) hc, hneed⟩
  case inner hrun hc hneed =>
    refine datapathOk_u8dec hc hrun (hi.utf8K (by simp [hrun]) hc) ?_
    have hacc := (hi.utf8 hrun hc).2 (by rcases hneed with hneed | hneed <;> simp [hneed])
    have hshift := shiftIn6_lt (payload (byteOf e)) hacc
    rcases hneed with hneed | hneed <;> simpa [hneed] using hshift
  case last hrun hc hneed =>
    exact datapathOk_u8dec hc hrun (hi.utf8K (by simp [hrun]) hc) (by simp)
  case codePoint hrun hc =>
    have hclear := hi.u8enc (by simp [hrun]) hc
    rw [u8eConsume_eq]
    constructor <;> simp [hc, hrun, hclear]

/-! ### The error record and the warnings (R31, R183, R191, R193) -/

/-- A record that is clean but for the warnings of its operation. -/
theorem recordOk_of_clean (hcode : t.errCode = .none) (hpos : t.errPos = 0)
    (hrun : t.phase = .run → t.tail1 = false ∧ t.lstop = false)
    (htail1 : t.tail1 = true → codecOf t.opL = some .b64dec) (hovf : t.ovf = true → codecOf t.opL = some .u8enc)
    (hlstop : t.lstop = true → codecOf t.opL = some .u8dec ∧ t.modeL = false) : RecordOk t := by
  constructor <;> simp_all

/-- A record of an engine error, in the phase after RUN. -/
theorem recordOk_of_error (hphase : t.phase ≠ .run) (hmode : t.modeL = true)
    (hcode : codecOf t.opL = some .u8dec ∧ (t.errCode = .u8Trunc ∨ t.errCode = .u8Lead) ∨
      codecOf t.opL = some .b64dec ∧ t.errCode = .b64Char)
    (hwarn : t.tail1 = false ∧ t.ovf = false ∧ t.lstop = false) : RecordOk t := by
  rcases hcode with ⟨hc, hcode | hcode⟩ | ⟨hc, hcode⟩ <;> constructor <;> simp_all

/-- While an operation produces, its record is clean, and only U8ENC may have a warning (R193). -/
theorem record_of_run (hi : RecordOk s) (hrun : s.phase = .run) :
    s.errCode = .none ∧ s.errPos = 0 ∧ s.tail1 = false ∧ s.lstop = false ∧
      (codecOf s.opL ≠ some .u8enc → s.ovf = false) := by
  obtain ⟨hcode, htail1, hlstop⟩ := hi.runClean hrun
  refine ⟨hcode, hi.posZero (.inl hcode), htail1, hlstop, fun hc => ?_⟩
  cases hovf : s.ovf with
  | false => rfl
  | true => exact absurd (hi.ovfOf hovf).1 hc

/-- An emission into a group or a sequence leaves the record of a producing operation. -/
theorem recordOk_of_run (hi : RecordOk s) (hrun : s.phase = .run) (hphase : t.phase = s.phase)
    (hcode : t.errCode = s.errCode) (hpos : t.errPos = s.errPos) (htail1 : t.tail1 = s.tail1) (hlstop : t.lstop = s.lstop)
    (hovf : t.ovf = s.ovf) (hop : t.opL = s.opL) : RecordOk t := by
  obtain ⟨code, position, tail1, lstop, -⟩ := record_of_run hi hrun
  have ovf := hi.ovfOf
  refine recordOk_of_clean ?_ ?_ ?_ ?_ ?_ ?_ <;> simp_all

/-- A consume step keeps the record's part of the invariant. -/
theorem consume_recordOk (h : ConsumeMove e pos s t) (hi : RecordOk s) : RecordOk t := by
  cases h
  case discard => exact hi
  case pad hrun hc _ =>
    obtain ⟨code, position, tail1, lstop, ovf⟩ := record_of_run hi hrun
    rw [b64dFlush_eq]
    exact recordOk_of_clean code position nofun (fun _ => hc) (by simp [ovf, hc]) (by simp [lstop])
  case badChar hrun hc _ hmode =>
    obtain ⟨code, -, tail1, lstop, ovf⟩ := record_of_run hi hrun
    exact recordOk_of_error (by simp) (by simpa using hmode) (.inr (by simp [hc, code]))
      (by simp [tail1, lstop, ovf, hc])
  case badLead hrun hc _ _ hmode =>
    obtain ⟨code, -, tail1, lstop, ovf⟩ := record_of_run hi hrun
    exact recordOk_of_error (by simp) (by simpa using hmode) (.inl (by simp [hc, code]))
      (by simp [tail1, lstop, ovf, hc])
  case stopLead hrun hc _ _ hmode =>
    obtain ⟨code, position, tail1, -, ovf⟩ := record_of_run hi hrun
    exact recordOk_of_clean code position nofun (by simp [tail1]) (by simp [ovf, hc]) (fun _ => ⟨hc, hmode⟩)
  case codePoint hrun hc =>
    obtain ⟨code, position, tail1, lstop, -⟩ := record_of_run hi hrun
    rw [u8eConsume_eq]
    exact recordOk_of_clean code position (fun _ => ⟨tail1, lstop⟩) (by simp [tail1]) (fun _ => hc) (by simp [lstop])
  all_goals
    rename s.phase = .run => hrun
    exact recordOk_of_run hi hrun (by simp [u8dLead]) (by simp [u8dLead]) (by simp [u8dLead]) (by simp [u8dLead])
      (by simp [u8dLead]) (by simp [u8dLead]) (by simp [u8dLead])

/-- `complete()` keeps the record: it only leaves the phases that ask more of it. -/
theorem recordOk_complete (hi : RecordOk s) : RecordOk (complete s) :=
  ⟨nofun, hi.posZero, hi.utf8Err, hi.b64Err, fun h => ⟨rfl, (hi.illegal h).2⟩, hi.tail1Of, hi.ovfOf, hi.lstopOf⟩

/-- A final step keeps the record's part of the invariant. -/
theorem final_recordOk (h : FinalMove s t) (hi : RecordOk s) : RecordOk t := by
  cases h
  case drained | encodeNone | between | encoded => exact recordOk_complete hi
  case encodeOne hrun _ _ | encodeTwo hrun _ _ =>
    exact recordOk_complete (recordOk_of_run hi hrun (by simp) (by simp) (by simp) (by simp) (by simp) (by simp)
      (by simp))
  case flush hrun hc =>
    obtain ⟨code, position, tail1, lstop, ovf⟩ := record_of_run hi hrun
    rw [b64dFlush_eq]
    exact recordOk_of_clean code position nofun (fun _ => hc) (by simp [ovf, hc]) (by simp [lstop])
  case truncated hrun hc _ hmode =>
    obtain ⟨code, -, tail1, lstop, ovf⟩ := record_of_run hi hrun
    exact recordOk_of_error (by simp) (by simpa using hmode) (.inl (by simp [hc, code]))
      (by simp [tail1, lstop, ovf, hc])
  case stopInside hrun hc _ hmode =>
    obtain ⟨code, position, tail1, -, ovf⟩ := record_of_run hi hrun
    exact recordOk_of_clean code position nofun (by simp [tail1]) (by simp [ovf, hc]) (fun _ => ⟨hc, hmode⟩)

/-! ### What is emitted (R69, R172) -/

/-- An output element is a byte. -/
def isByte (v : Word) : Prop := v.toNat < 256

theorem isByte_element (b : Byte) : isByte (element b) := by
  have := b.isLt
  simp only [isByte, element, BitVec.toNat_setWidth]
  omega

theorem isByte_fullGroupChars (g : BitVec 24) : ∀ v ∈ fullGroupChars g, isByte v := by
  simp only [fullGroupChars, groupChar, List.forall_mem_cons, isByte_element, List.not_mem_nil, false_implies,
    implies_true, and_self]

theorem isByte_oneByteChars (b0 : Byte) : ∀ v ∈ oneByteChars b0, isByte v := by
  simp only [oneByteChars, groupChar, List.forall_mem_cons, isByte_element, List.not_mem_nil, false_implies,
    implies_true, and_self]

theorem isByte_twoByteChars (b0 b1 : Byte) : ∀ v ∈ twoByteChars b0 b1, isByte v := by
  simp only [twoByteChars, groupChar, List.forall_mem_cons, isByte_element, List.not_mem_nil, false_implies,
    implies_true, and_self]

theorem isByte_fullGroupBytes (g : BitVec 24) : ∀ v ∈ fullGroupBytes g, isByte v := by
  simp only [fullGroupBytes, accByte, List.forall_mem_cons, isByte_element, List.not_mem_nil, false_implies,
    implies_true, and_self]

theorem isByte_tailBytes (k : BitVec 2) (a : BitVec 24) : ∀ v ∈ tailBytes k a, isByte v := by
  unfold tailBytes accByte
  split <;> simp only [List.forall_mem_cons, isByte_element, List.not_mem_nil, false_implies, implies_true, and_self]

theorem isByte_utf8Bytes (cp : Word) : ∀ v ∈ utf8Bytes cp, isByte v := by
  unfold utf8Bytes contByte
  repeat' split
  all_goals simp only [List.forall_mem_cons, isByte_element, List.not_mem_nil, false_implies, implies_true, and_self]

/-- OUTQ stays as R69 and R172 have it when bytes are appended. -/
theorem outputOk_of_bytes {vs : List Word} (hi : OutputOk s) (hop : t.opL = s.opL) (hq : t.outq = s.outq ++ vs)
    (hvs : ∀ v ∈ vs, isByte v) : OutputOk t := by
  refine ⟨fun v hv => ?_, fun hc v hv => ?_⟩ <;> rw [hq, List.mem_append] at hv
  · rcases hv with hv | hv
    · exact hi.codePoint v hv
    · exact (Nat.le_of_lt (hvs v hv)).trans (by decide)
  · rcases hv with hv | hv
    · exact hi.byte (hop ▸ hc) v hv
    · exact hvs v hv

/-- OUTQ stays as it is when nothing is appended. -/
theorem outputOk_of_same (hi : OutputOk s) (hop : t.opL = s.opL) (hq : t.outq = s.outq) : OutputOk t :=
  outputOk_of_bytes hi hop (vs := []) (by simp [hq]) (by simp)

/-- The flush emits the bytes of the open group (R151). -/
theorem b64dFlush_outq (s : State) : (b64dFlush s).outq = s.outq ++ tailBytes s.k s.acc := by
  rcases pair_cases s.k with hk | hk | hk | hk <;> simp [b64dFlush, hk, tailBytes]

theorem b64dFlush_opL (s : State) : (b64dFlush s).opL = s.opL := by rw [b64dFlush_eq]

/-- A code point of a sequence of at most four bytes is at most 0x1FFFFF (R172). -/
theorem codePoint_le {a : BitVec 24} (v : Sextet) (h : a.toNat < 2 ^ 15) :
    ((shiftIn6 a v).setWidth 32).toNat ≤ 0x1FFFFF := by
  have := shiftIn6_lt v h
  rw [BitVec.toNat_setWidth]
  omega

/-- A consume step keeps the output's part of the invariant. -/
theorem consume_outputOk (h : ConsumeMove e pos s t) (hd : DatapathOk s) (hi : OutputOk s) : OutputOk t := by
  cases h
  case encodeGroup => exact outputOk_of_bytes hi (emitAll_opL _ _) (emitAll_outq _ _) (isByte_fullGroupChars _)
  case decodeGroup v _ _ _ _ => exact outputOk_of_bytes hi (emitAll_opL _ _) (emitAll_outq _ _) (isByte_fullGroupBytes _)
  case pad => exact outputOk_of_bytes hi (b64dFlush_opL s) (b64dFlush_outq s) (isByte_tailBytes _ _)
  case ascii v _ _ _ _ => exact outputOk_of_bytes hi rfl rfl (List.forall_mem_singleton.mpr (isByte_element _))
  case codePoint =>
    rw [u8eConsume_eq]
    exact outputOk_of_bytes hi rfl rfl (isByte_utf8Bytes e)
  case last hrun hc hneed =>
    have hacc := (hd.utf8 hrun hc).2 (by simp [hneed])
    rw [hneed] at hacc
    refine ⟨fun v hv => ?_, fun hne => absurd hc hne⟩
    rcases List.mem_append.mp hv with hv | hv
    · exact hi.codePoint v hv
    · rw [List.mem_singleton.mp hv]
      exact codePoint_le _ hacc
  all_goals exact outputOk_of_same hi (by simp [u8dLead]) (by simp [u8dLead])

/-- A final step keeps the output's part of the invariant. -/
theorem final_outputOk (h : FinalMove s t) (hi : OutputOk s) : OutputOk t := by
  cases h
  case encodeOne => exact outputOk_of_bytes hi (emitAll_opL _ _) (emitAll_outq _ _) (isByte_oneByteChars _)
  case encodeTwo => exact outputOk_of_bytes hi (emitAll_opL _ _) (emitAll_outq _ _) (isByte_twoByteChars _ _)
  case flush => exact outputOk_of_bytes hi (b64dFlush_opL s) (b64dFlush_outq s) (isByte_tailBytes _ _)
  all_goals exact outputOk_of_same hi (by simp) (by simp)

/-! ### The FIFOs, the counters and the control registers (R40, R90, R93, R122) -/

theorem ConsumeStep.controlOk (h : ConsumeStep s e t) (hi : ControlOk s) : ControlOk t := by
  have frame := h.frame
  have hbusy := h.busy
  have op : t.opL = s.opL := frame.opL
  refine ⟨fun _ => ?_, fun _ => ?_, fun _ => ?_, fun _ => ?_, fun hdrain => ?_⟩
  · rw [op]; exact hi.busyOp hbusy
  · rw [frame.done]; exact hi.busyNotDone hbusy
  · rw [frame.lenL, frame.inLen]; exact hi.busyLen hbusy
  · rw [frame.cmdOpcode, frame.cmdMode, frame.opL, frame.modeL]; exact hi.busyCmd hbusy
  · rw [op]
    rcases consume_phase h.move with hsame | ⟨-, -, hc⟩
    · exact hi.drainOp (hsame.symm.trans hdrain)
    · exact hc

/-- Nothing is asked of the control registers of an idle block. -/
theorem controlOk_idle (hidle : t.phase = .idle) : ControlOk t := by
  constructor <;> simp [hidle]

/-- An enabled consume step finds IN_COUNT below LEN_L, so that counting the element does not wrap. -/
theorem inCount_succ (h : s.inCount < s.lenL) : (s.inCount + 1).toNat = s.inCount.toNat + 1 := by
  bv_omega

theorem ConsumeStep.queuesOk (h : ConsumeStep s e t) (hi : QueuesOk s) : QueuesOk t := by
  have frame := h.frame
  obtain ⟨n, -, hemits, hroom⟩ := h.emission
  obtain ⟨-, hlt, hhead, -⟩ := h.enabled
  obtain ⟨rest, hq⟩ : ∃ rest, s.inq = e :: rest := ⟨s.inq.tail, List.eq_cons_of_mem_head? hhead⟩
  have inq : t.inq = rest := by rw [frame.inq, popInput_inq, hq, List.tail_cons]
  have inqFits := hi.inqFits
  have counted := hi.counted
  have pushedLe := hi.pushedLe
  rw [hq, List.length_cons] at inqFits counted
  refine ⟨?_, outq_fits_of_emits hemits hroom hi.outqFits, ?_, ?_, fun hidle => absurd hidle frame.busy⟩
  · rw [inq]; omega
  · rw [inq, frame.inCount, frame.pushed, popInput_inCount, popInput_pushed, inCount_succ hlt]; omega
  · rw [frame.pushed, frame.lenL]; exact pushedLe

theorem FinalStep.queuesOk (h : FinalStep s t) (hi : QueuesOk s) : QueuesOk t := by
  have frame := h.frame
  obtain ⟨n, -, hemits, hroom⟩ := h.emission
  obtain ⟨-, hend, -⟩ := h.enabled
  have counted := hi.counted
  have pushedLe := hi.pushedLe
  refine ⟨?_, outq_fits_of_emits hemits hroom hi.outqFits, ?_, ?_, fun _ => ?_⟩
  · rw [frame.inq]; exact hi.inqFits
  · rw [frame.inq, frame.inCount, frame.pushed]; exact counted
  · rw [frame.pushed, frame.lenL]; exact pushedLe
  · rw [frame.inq]
    rw [hend] at counted
    exact List.length_eq_zero_iff.mp (by omega)

/-! ### The engine's steps -/

theorem ConsumeStep.inv (h : ConsumeStep s e t) (hi : Inv s) : Inv t := by
  have move := h.move
  have datapath : DatapathOk (popInput s) := ⟨hi.4.1, hi.4.2, hi.4.3, hi.4.4, hi.4.5, hi.4.6, hi.4.7⟩
  have record : RecordOk (popInput s) := ⟨hi.3.1, hi.3.2, hi.3.3, hi.3.4, hi.3.5, hi.3.6, hi.3.7, hi.3.8⟩
  have output : OutputOk (popInput s) := ⟨hi.5.1, hi.5.2⟩
  exact ⟨h.queuesOk hi.queues, h.controlOk hi.control, consume_recordOk move record, consume_datapath move datapath,
    consume_outputOk move datapath output⟩

theorem FinalStep.inv (h : FinalStep s t) (hi : Inv s) : Inv t := by
  have idle := h.frame.idle
  exact ⟨h.queuesOk hi.queues, controlOk_idle idle, final_recordOk h.move hi.record, datapathOk_idle idle,
    final_outputOk h.move hi.output⟩

/-! ### The host's steps and the reset -/

/-- An idle block with empty FIFOs and no operation open meets the invariant, whatever its latches. -/
theorem inv_of_cleared (hidle : t.phase = .idle) (hinq : t.inq = []) (houtq : t.outq = []) (hcount : t.inCount = 0)
    (hpushed : t.pushed = 0) (hwarn : t.tail1 = false ∧ t.ovf = false ∧ t.lstop = false) (hpos : t.errPos = 0)
    (hcode : t.errCode = .none ∨ (t.errCode = .illegalCmd ∧ codecOf t.opL = none)) : Inv t := by
  obtain ⟨tail1, ovf, lstop⟩ := hwarn
  refine ⟨?_, controlOk_idle hidle, ?_, datapathOk_idle hidle, ?_⟩
  · constructor <;> simp [hinq, houtq, hcount, hpushed]
  · rcases hcode with hcode | ⟨hcode, hc⟩ <;> constructor <;> simp [*]
  · constructor <;> simp [houtq]

/-- A started operation meets the invariant, whatever stood before (R110). -/
theorem inv_start {op : BitVec 4} {c : Codec} (m : Bool) (s : State) (hc : codecOf op = some c) :
    Inv (start op m s) := by
  refine ⟨?_, ?_, ?_, ?_, ?_⟩ <;> constructor <;> simp [hc]

/-- The opcodes 1 to 4 are the codecs', the opcodes 5 to 14 are none (R63). -/
theorem codecOf_range : ∀ op : BitVec 4,
    (1 ≤ op.toNat → op.toNat ≤ 4 → (codecOf op).isSome = true) ∧ (5 ≤ op.toNat → codecOf op = none) := by decide

/-- A quiet host transaction keeps the invariant: it may push below LEN_L and IN_DEPTH, pop an output element, write IN_LEN
while idle and clear DONE. -/
theorem inv_of_quiet (h : QuietHost s t) (hi : Inv s) : Inv t := by
  obtain ⟨-, acc, k, need, leadPos, phase, errCode, errPos, tail1, ovf, lstop, inCount, -, opL, modeL, lenL, cmdOpcode,
    cmdMode, -, inLen, done, inq, outq, -⟩ := h
  obtain ⟨⟨inqFits, outqFits, counted, pushedLe, idleEmpty⟩, control, record, datapath, output⟩ := hi
  have outqSub : ∀ v ∈ t.outq, v ∈ s.outq := by
    rcases outq with outq | ⟨d, -, outq⟩ <;> rw [outq]
    · exact fun v hv => hv
    · exact fun v hv => List.mem_of_mem_tail hv
  refine ⟨?queues, ?control, ?record, ?datapath, ?output⟩
  case queues =>
    have outqFits : t.outq.length ≤ Config.outDepth := by
      rcases outq with outq | ⟨d, -, outq⟩ <;> rw [outq]
      · exact outqFits
      · rw [List.length_tail]; omega
    rcases inq with ⟨inq, pushed⟩ | ⟨d, -, ready, inq, pushed⟩
    · exact ⟨by rwa [inq], outqFits, by rwa [inCount, inq, pushed], by rwa [pushed, lenL], by rwa [phase, inq]⟩
    · obtain ⟨hbusy, hlt, hdepth⟩ := (inReady_iff s).mp ready
      have succ : t.pushed.toNat = s.pushed.toNat + 1 := by bv_omega
      have below : t.pushed.toNat ≤ t.lenL.toNat := by bv_omega
      refine ⟨?_, outqFits, ?_, below, fun hidle => absurd (phase ▸ hidle) hbusy⟩
      · rw [inq, List.length_append, List.length_singleton]; omega
      · rw [inq, List.length_append, List.length_singleton, inCount]; omega
  case control =>
    obtain ⟨busyOp, busyNotDone, busyLen, busyCmd, drainOp⟩ := control
    have notDone : s.phase ≠ .idle → t.done = false := by
      rcases done with done | ⟨done, -⟩
      · rwa [done]
      · exact fun _ => done
    have len : s.phase ≠ .idle → s.lenL = t.inLen := by
      rcases inLen with inLen | ⟨d, -, hidle, -⟩
      · rwa [inLen]
      · exact fun hbusy => absurd hidle hbusy
    constructor <;> simp only [phase, opL, modeL, lenL, cmdOpcode, cmdMode] <;> assumption
  case record =>
    obtain ⟨runClean, posZero, utf8Err, b64Err, illegal, tail1Of, ovfOf, lstopOf⟩ := record
    constructor <;> simp only [phase, errCode, errPos, tail1, ovf, lstop, opL, modeL] <;> assumption
  case datapath =>
    obtain ⟨encode, decode, utf8, base64, utf8K, u8enc, drain⟩ := datapath
    constructor <;> simp only [phase, opL, acc, k, need, leadPos] <;> assumption
  case output =>
    exact ⟨fun v hv => output.codePoint v (outqSub v hv), fun hc v hv => output.byte (opL ▸ hc) v (outqSub v hv)⟩

/-- Settles O41, by the cases of a step. -/
theorem stepKeepsTheInvariant : Obligations.StepKeepsTheInvariant := by
  intro s t hi h
  cases step_move h with
  | pass p _ => exact inv_withPending p hi
  | consume p e _ _ hstep => exact hstep.inv (inv_withPending p hi)
  | final p _ _ hstep => exact hstep.inv (inv_withPending p hi)
  | reset p _ => exact inv_of_cleared rfl rfl rfl rfl rfl ⟨rfl, rfl, rfl⟩ rfl (.inl rfl)
  | abort p d _ _ => exact inv_of_cleared rfl rfl rfl rfl rfl ⟨rfl, rfl, rfl⟩ rfl (.inl rfl)
  | start p d _ hlo hhi _ =>
    obtain ⟨c, hc⟩ := Option.isSome_iff_exists.mp ((codecOf_range (opcodeOf d)).1 hlo hhi)
    exact inv_start _ _ hc
  | illegal p d _ hlo _ _ =>
    exact inv_of_cleared rfl rfl rfl rfl rfl ⟨rfl, rfl, rfl⟩ rfl (.inr ⟨rfl, (codecOf_range (opcodeOf d)).2 hlo⟩)
  | quiet _ hquiet => exact inv_of_quiet hquiet hi

/-- Settles O40: a block that has just been reset is cleared. -/
theorem resetMeetsTheInvariant : Obligations.ResetMeetsTheInvariant :=
  fun _ => inv_of_cleared rfl rfl rfl rfl rfl ⟨rfl, rfl, rfl⟩ rfl (.inl rfl)

end Sys2Proof.Machine

/-! PROOF. The engine's turns (41_engine.md, 42_base64_encode.md, 43_base64_decode.md): when a turn passes, what the Base64
steps do, that no step stops the machine, and that the engine makes progress (R131, R215). -/

namespace Sys2Proof.Machine

variable {s t : State} {e : Word}

/-! ### Turns that pass (R133, R215) -/

/-- A turn passes while the block is idle (R133). -/
theorem engineTurn_of_idle (h : s.phase = .idle) : engineTurn s = .next s := if_pos h

/-- A turn passes while INQ is empty before the last element (R215 a). -/
theorem engineTurn_of_empty (hlt : s.inCount < s.lenL) (hq : s.inq = []) : engineTurn s = .next s := by
  simp only [engineTurn, hlt, hq, if_true, ite_self]

/-- A turn passes while OUTQ lacks room for the consume step (R122). -/
theorem engineTurn_consume_of_full {rest : List Word} {n : Nat} (hlt : s.inCount < s.lenL) (hq : s.inq = e :: rest)
    (hn : consumeCount e s = some n) (hfull : hasRoom n s = false) : engineTurn s = .next s := by
  have waits : consumeTurn e s = .next s := by simp only [consumeTurn, hn, hfull, Bool.false_eq_true, if_false]
  simp only [engineTurn, hlt, hq, waits, if_true, ite_self]

/-- A turn passes while OUTQ lacks room for the final step (R123). -/
theorem engineTurn_final_of_full {n : Nat} (hend : s.inCount = s.lenL) (hn : finalCount s = some n)
    (hfull : hasRoom n s = false) : engineTurn s = .next s := by
  have waits : finalTurn s = .next s := by simp only [finalTurn, hn, hfull, Bool.false_eq_true, if_false]
  simp only [engineTurn, hend, BitVec.lt_irrefl, waits, if_false, ite_self]

theorem hasRoom_eq_false {n : Nat} (h : Config.outDepth - s.outq.length < n) : hasRoom n s = false :=
  decide_eq_false (Nat.not_le.mpr h)

/-- Settles O22, by the reason the turn passes. -/
theorem idleAndWaitingEngine : Obligations.IdleAndWaitingEngine :=
  fun _ => ⟨engineTurn_of_idle, engineTurn_of_empty,
    fun _ _ _ hlt hq hn hfull => engineTurn_consume_of_full hlt hq hn (hasRoom_eq_false hfull),
    fun _ hend hn hfull => engineTurn_final_of_full hend hn (hasRoom_eq_false hfull)⟩

/-! ### The Base64 consume steps -/

/-- Without room for `n` elements the room test fails. -/
theorem hasRoom_of_not_room {n : Nat} (hn : 0 < n) (h : ¬ room n s) : hasRoom n s = false :=
  hasRoom_eq_false (by unfold room at h; omega)

section
variable {rest : List Word} (hready : consumeReady 1 e rest s)
include hready

theorem consumeCount_b64enc : consumeCount e s = b64eConsumeCount s := by
  obtain ⟨hrun, hop, -, -⟩ := hready
  simp [consumeCount, hrun, hop, codecOf]

/-- With a byte at the head of INQ and room for what it emits, the encoder's turn is `B64E_consume(e)` (R122). -/
theorem engineTurn_b64eConsume {n : Nat} (hn : b64eConsumeCount s = some n) (hroom : hasRoom n s = true) :
    engineTurn s = engineResult (b64eConsume e { s with inq := rest, inCount := s.inCount + 1 }) := by
  rw [← popInput_of_consumeReady hready]
  have hcount := (consumeCount_b64enc hready).trans hn
  obtain ⟨hrun, hop, hlt, hq⟩ := hready
  rw [engineTurn_consume ⟨by simp [hrun], hlt, by simp [hq], n, hcount, hroom⟩]
  simp [consumeEffect, hrun, hop, codecOf]

end

/-- Settles O24, by the bytes in the open group and OUTQ's room. -/
theorem base64EncodeConsume : Obligations.Base64EncodeConsume := by
  intro s e rest hready
  refine ⟨fun hk => ?grows, fun hk hroom g hg => ?full, fun hk hroom => ?waits⟩
  case grows =>
    have emitsNone : b64eConsumeCount s = some 0 := by rcases hk with hk | hk <;> simp [b64eConsumeCount, hk]
    rw [engineTurn_b64eConsume hready emitsNone (hasRoom_zero s)]
    rcases hk with hk | hk <;> simp [b64eConsume, hk, engineResult, setGroup, shiftIn8, byteOf]
  case full =>
    have byte : e.extractLsb' 0 8 = byteOf e := (BitVec.setWidth_eq_extractLsb' (by decide)).symm
    rw [engineTurn_b64eConsume hready (n := 4) (by simp [b64eConsumeCount, hk]) (hasRoom_of_le s hroom)]
    simp [b64eConsume, hk, engineResult, setGroup, emitAll_eq, hg, byte, fullGroupChars, groupChar]
  case waits =>
    have hcount := (consumeCount_b64enc hready).trans (show b64eConsumeCount s = some 4 by simp [b64eConsumeCount, hk])
    obtain ⟨-, -, hlt, hq⟩ := hready
    exact engineTurn_consume_of_full hlt hq hcount (hasRoom_of_not_room (by decide) hroom)

section
variable {v : Sextet} (hv : readsAs e s.modeL v)
include hv

/-- A character that stands for a sextet emits only at the end of a group (R124). -/
theorem b64dConsumeCount_sextet : b64dConsumeCount e s = if s.k = 3 then 3 else 0 := by
  rcases hv with hclass | ⟨hclass, hmode, -⟩
  · simp only [b64dConsumeCount, hclass]
  · simp only [b64dConsumeCount, hclass, hmode, Bool.false_eq_true, if_false]

/-- A character that stands for a sextet joins it to the open group (R147, R149). -/
theorem b64dConsume_sextet (pos : Word) : b64dConsume e pos s = b64dSextet v s := by
  rcases hv with hclass | ⟨hclass, hmode, rfl⟩
  · simp only [b64dConsume, hclass]
  · simp only [b64dConsume, hclass, hmode, Bool.false_eq_true, if_false]

end

/-- Settles O26, by the sextets in the open group and OUTQ's room. -/
theorem base64DecodeSextets : Obligations.Base64DecodeSextets := by
  intro s e rest v hready hreads
  have hv : readsAs e s.modeL v := hreads
  have hv' : readsAs e (popInput s).modeL v := hreads
  have hcount := b64dConsumeCount_sextet hv
  refine ⟨fun hk => ?grows, fun hk hroom g hg => ?full, fun hk hroom => ?waits⟩
  case grows =>
    rw [if_neg hk] at hcount
    rw [engineTurn_b64dConsume hready (by rw [hcount]; exact hasRoom_zero s), b64dConsume_sextet hv',
      popInput_of_consumeReady hready, b64dSextet, if_neg hk]
    rfl
  case full =>
    rw [if_pos hk] at hcount
    rw [engineTurn_b64dConsume hready (by rw [hcount]; exact hasRoom_of_le s hroom), b64dConsume_sextet hv',
      popInput_of_consumeReady hready, b64dSextet, if_pos hk, emitAll_eq, hg]
    rfl
  case waits =>
    rw [if_pos hk] at hcount
    obtain ⟨hrun, hop, hlt, hq⟩ := hready
    exact engineTurn_consume_of_full (n := 3) hlt hq (by simp [consumeCount, hrun, hop, codecOf, hcount])
      (hasRoom_of_not_room (by decide) hroom)

/-! ### No step stops -/

/-- Every instruction answers a next state (R83). -/
theorem exec_next (i : Instr) (s : State) : ∃ t, exec i s = .next t := by
  cases i
  case rdOutData =>
    simp only [exec, execRdOutData]
    split <;> exact ⟨_, rfl⟩
  case wrCmd =>
    simp only [exec, execWrCmd]
    repeat' split
    all_goals exact ⟨_, rfl⟩
  all_goals exact ⟨_, rfl⟩

/-- Where R124 counts a consume step, the step has a meaning. -/
theorem consumeEffect_of_count {n : Nat} (pos : Word) (hn : consumeCount e s = some n) :
    ∃ t, consumeEffect e pos s = some t := by
  unfold consumeCount at hn
  unfold consumeEffect
  split
  · exact ⟨_, rfl⟩
  case isFalse hdrain =>
    rw [if_neg hdrain] at hn
    split <;> rename_i hc <;> simp only [hc] at hn
    case h_1 => rcases pair_cases s.k with k | k | k | k <;> simp [b64eConsume, b64eConsumeCount, k] at hn ⊢
    case h_5 => cases hn
    all_goals exact ⟨_, rfl⟩

/-- Where R124 counts the final step, the step has a meaning. -/
theorem finalEffect_of_count {n : Nat} (hn : finalCount s = some n) : ∃ t, finalEffect s = some t := by
  unfold finalCount at hn
  unfold finalEffect
  split
  · exact ⟨_, rfl⟩
  case isFalse hdrain =>
    rw [if_neg hdrain] at hn
    split <;> rename_i hc <;> simp only [hc] at hn
    case h_1 => rcases pair_cases s.k with k | k | k | k <;> simp [b64eFinal, b64eFinalCount, k] at hn ⊢
    case h_5 => cases hn
    all_goals exact ⟨_, rfl⟩

section
variable (hi : Inv s) (hbusy : s.phase ≠ .idle)
include hi hbusy

/-- The invariant leaves a running Base64 encoder at most two bytes in the open group (R136). -/
theorem encoder_group_cases (hdrain : s.phase ≠ .drain) (hc : codecOf s.opL = some .b64enc) :
    s.k = 0 ∨ s.k = 1 ∨ s.k = 2 := by
  obtain ⟨hk, -⟩ := hi.datapath.encode (phase_run_of hbusy hdrain) hc
  rcases pair_cases s.k with k | k | k | k
  · exact .inl k
  · exact .inr (.inl k)
  · exact .inr (.inr k)
  · simp [k] at hk

/-- Under the invariant R124 counts every consume step of a busy block. -/
theorem consumeCount_of_inv (e : Word) : ∃ n, consumeCount e s = some n := by
  unfold consumeCount
  split
  · exact ⟨0, rfl⟩
  case isFalse hdrain =>
    obtain ⟨c, hc⟩ := hi.control.busyOp hbusy
    cases c <;> simp only [hc]
    case b64enc => rcases encoder_group_cases hi hbusy hdrain hc with k | k | k <;> simp [b64eConsumeCount, k]
    all_goals exact ⟨_, rfl⟩

/-- Under the invariant R124 counts the final step of a busy block. -/
theorem finalCount_of_inv : ∃ n, finalCount s = some n := by
  unfold finalCount
  split
  · exact ⟨0, rfl⟩
  case isFalse hdrain =>
    obtain ⟨c, hc⟩ := hi.control.busyOp hbusy
    cases c <;> simp only [hc]
    case b64enc => rcases encoder_group_cases hi hbusy hdrain hc with k | k | k <;> simp [b64eFinalCount, k]
    all_goals exact ⟨_, rfl⟩

/-- Under the invariant a busy block with an element waiting and room for four takes a consume step (R122, R215). -/
theorem engine_consumes {rest : List Word} (hq : s.inq = e :: rest) (hroom : room 4 s) :
    ∃ t, engineTurn s = .next t ∧ ConsumeStep s e t := by
  obtain ⟨n, hn⟩ := consumeCount_of_inv hi hbusy e
  obtain ⟨t, heffect⟩ := consumeEffect_of_count (s := popInput s) s.inCount ((consumeCount_popInput e s).trans hn)
  obtain ⟨-, -, -, -, hle⟩ := consumeEffect_emits heffect ((consumeCount_popInput e s).trans hn)
  have hlt : s.inCount < s.lenL := by
    have counted := hi.queues.counted
    have pushedLe := hi.queues.pushedLe
    rw [hq, List.length_cons] at counted
    bv_omega
  have enabled : ConsumeEnabled s e :=
    ⟨hbusy, hlt, by rw [hq, List.head?_cons], n, hn, hasRoom_of_le s (by unfold room at hroom; omega)⟩
  exact ⟨t, by rw [engineTurn_consume enabled, heffect, engineResult], enabled, heffect⟩

/-- Under the invariant a busy block that has consumed all its elements and has room for four takes the final step
(R123, R215). -/
theorem engine_completes (hend : s.inCount = s.lenL) (hroom : room 4 s) :
    ∃ t, engineTurn s = .next t ∧ FinalStep s t := by
  obtain ⟨n, hn⟩ := finalCount_of_inv hi hbusy
  obtain ⟨t, heffect⟩ := finalEffect_of_count hn
  obtain ⟨-, -, -, -, hle⟩ := finalEffect_emits heffect hn
  have enabled : FinalEnabled s := ⟨hbusy, hend, n, hn, hasRoom_of_le s (by unfold room at hroom; omega)⟩
  exact ⟨t, by rw [engineTurn_final enabled, heffect, engineResult], enabled, heffect⟩

/-- Under the invariant the consume step of a busy block answers a next state, or waits. -/
theorem consumeTurn_next (e : Word) : ∃ t, consumeTurn e s = .next t := by
  obtain ⟨n, hn⟩ := consumeCount_of_inv hi hbusy e
  obtain ⟨t, heffect⟩ := consumeEffect_of_count (s := popInput s) s.inCount ((consumeCount_popInput e s).trans hn)
  cases hroom : hasRoom n s
  · exact ⟨s, by simp only [consumeTurn, hn, hroom, Bool.false_eq_true, if_false]⟩
  · exact ⟨t, by simp only [consumeTurn, hn, hroom, if_true, heffect, engineResult]⟩

/-- Under the invariant the final step of a busy block answers a next state, or waits. -/
theorem finalTurn_next : ∃ t, finalTurn s = .next t := by
  obtain ⟨n, hn⟩ := finalCount_of_inv hi hbusy
  obtain ⟨t, heffect⟩ := finalEffect_of_count hn
  cases hroom : hasRoom n s
  · exact ⟨s, by simp only [finalTurn, hn, hroom, Bool.false_eq_true, if_false]⟩
  · exact ⟨t, by simp only [finalTurn, hn, hroom, if_true, heffect, engineResult]⟩

end

/-- Under the invariant a turn of the engine answers a next state. -/
theorem engineTurn_next (hi : Inv s) : ∃ t, engineTurn s = .next t := by
  unfold engineTurn
  split
  · exact ⟨s, rfl⟩
  case isFalse hbusy =>
    split
    · split
      · exact ⟨s, rfl⟩
      · exact consumeTurn_next hi hbusy _
    · split
      · exact finalTurn_next hi hbusy
      · exact ⟨s, rfl⟩

/-- Settles O42, by the agent that moves. -/
theorem stepNeverStops : Obligations.StepNeverStops := by
  refine ⟨exec_next, fun s hi => ?_⟩
  unfold step
  split
  · exact engineTurn_next hi
  · exact exec_next _ _
  · exact engineTurn_next (inv_withPending _ hi)
  · exact ⟨_, rfl⟩

/-! ### Progress and stability -/

/-- A consume step counts one element, and so is not empty. -/
theorem ConsumeStep.ne (h : ConsumeStep s e t) : t ≠ s := by
  rintro rfl
  have hcount : t.inCount = t.inCount + 1 := h.frame.inCount
  bv_omega

/-- A final step leaves the operation's phases, and so is not empty. -/
theorem FinalStep.ne (h : FinalStep s t) : t ≠ s := by
  rintro rfl
  exact h.busy h.frame.idle

/-- Settles O35: the turn's cases by their frames, and under the invariant one of the two steps is enabled. -/
theorem engineMakesProgress : Obligations.EngineMakesProgress := by
  intro s t hbusy h
  constructor
  · rcases engineTurn_steps h with hpass | ⟨e, hstep⟩ | hstep
    · exact .inl hpass
    · have frame := hstep.frame
      obtain ⟨-, -, hhead, -⟩ := hstep.enabled
      exact .inr (.inl ⟨frame.inCount, fun hq => by simp [hq] at hhead, frame.inq, frame.busy⟩)
    · have frame := hstep.frame
      obtain ⟨-, hend, -⟩ := hstep.enabled
      exact .inr (.inr ⟨frame.inCount, hend, frame.idle, frame.done⟩)
  · intro hi hinput hroom
    rcases hinput with hq | hend
    · obtain ⟨e, rest, hq⟩ := List.exists_cons_of_ne_nil hq
      obtain ⟨t', h', hstep⟩ := engine_consumes hi hbusy hq hroom
      obtain rfl : t = t' := Host.Outcome.next.inj (h.symm.trans h')
      exact hstep.ne
    · obtain ⟨t', h', hstep⟩ := engine_completes hi hbusy hend hroom
      obtain rfl : t = t' := Host.Outcome.next.inj (h.symm.trans h')
      exact hstep.ne

/-- An emission keeps OUT_VALID. -/
theorem outValid_of_append {vs : List Word} (hq : t.outq = s.outq ++ vs) (h : s.outValid = true) :
    t.outValid = true := by
  rw [outValid_iff] at h ⊢
  rw [hq, List.length_append]
  omega

/-- Settles O54: a consume step makes INQ shorter and OUTQ longer, a final step finds nothing left to push, and neither is
taken with DONE set. -/
theorem readyAndValidAreStable : Obligations.ReadyAndValidAreStable := by
  intro s t hi hengine h
  cases step_move h with
  | pass p _ => exact ⟨id, id, fun hdone => ⟨hdone, rfl, rfl⟩⟩
  | consume p e _ _ hstep =>
    have frame := hstep.frame
    obtain ⟨n, -, ⟨vs, hq, -⟩, -⟩ := hstep.emission
    refine ⟨outValid_of_append hq, fun hready => ?_, fun hdone => ?_⟩
    · obtain ⟨-, hlt, hdepth⟩ := (inReady_iff s).mp hready
      refine (inReady_iff t).mpr ⟨frame.busy, ?_, ?_⟩
      · rw [frame.pushed, frame.lenL]; exact hlt
      · rw [frame.inq, popInput_inq, List.length_tail]
        exact (Nat.sub_le _ 1).trans_lt hdepth
    · exact absurd (hi.control.busyNotDone hstep.busy) (by simp [hdone])
  | final p _ _ hstep =>
    obtain ⟨n, -, ⟨vs, hq, -⟩, -⟩ := hstep.emission
    obtain ⟨-, hend, -⟩ := hstep.enabled
    refine ⟨outValid_of_append hq, fun hready => ?_, fun hdone => ?_⟩
    · obtain ⟨-, hlt, -⟩ := (inReady_iff s).mp hready
      have hend : s.inCount = s.lenL := hend
      have counted := hi.queues.counted
      bv_omega
    · exact absurd (hi.control.busyNotDone hstep.busy) (by simp [hdone])
  | reset p hnext => exact absurd hnext (not_resetNext_of_engine hengine)
  | abort p d hcommand | start p d hcommand | illegal p d hcommand =>
    exact absurd (hostNext_of_command hcommand) (not_hostNext_of_engine hengine)
  | quiet _ hquiet => exact absurd hquiet.host (not_hostNext_of_engine hengine)

end Sys2Proof.Machine

/-! PROOF. The engine computes the operation functions (41_engine.md, R128, R129): in a running block the verdict still to
come is the operation function resumed from the datapath, every engine step keeps it, and completion reads it off. -/

namespace Sys2Proof.Machine

variable {s t : State} {e pos : Word} {c : Codec} {y rest : List Word}

/-! ### The verdict still to come -/

/-- The verdict in the registers, with the elements emitted so far. -/
def verdictOf (s : State) (y : List Word) : Verdict := ⟨y, s.errCode, s.errPos, s.tail1, s.ovf, s.lstop⟩

/-- The bytes in the encoder's open group, oldest first (R136). -/
def openBytes (k : BitVec 2) (a : BitVec 24) : List Word :=
  match k.toNat with
  | 1 => [accByte a 0]
  | 2 => [accByte a 8, accByte a 0]
  | _ => []

/-- The operation function resumed in the middle: from the datapath, with `y` emitted and `rest` to consume, whose first
element has index `i`. -/
def resume (c : Codec) (i : Nat) (s : State) (y rest : List Word) : Verdict :=
  match c with
  | .b64enc => .plain (y ++ b64eChars (openBytes s.k s.acc ++ rest))
  | .b64dec => b64dLoop s.modeL rest i s.acc s.k y
  | .u8dec => u8dLoop s.modeL rest i s.acc s.need.toNat s.leadPos.toNat y
  | .u8enc => { Verdict.plain (y ++ rest.flatMap utf8Bytes) with
      ovf := s.ovf || rest.any (fun cp => decide (maxCodePoint < cp)) }

/-- The verdict a block will leave when it consumes `rest`: still to be computed in RUN, and recorded after it. -/
def outcomeFrom (c : Codec) (i : Nat) (s : State) (y rest : List Word) : Verdict :=
  if s.phase = .run then resume c i s y rest else verdictOf s y

theorem outcomeFrom_of_run {i : Nat} (h : s.phase = .run) : outcomeFrom c i s y rest = resume c i s y rest := if_pos h

theorem outcomeFrom_of_settled {i : Nat} (h : s.phase ≠ .run) : outcomeFrom c i s y rest = verdictOf s y := if_neg h

/-! ### The encoder's open group -/

@[simp] theorem byteOf_element (b : Byte) : byteOf (element b) = b := by
  simp [byteOf, element]

/-- Of each input element the encoder uses the byte only (R68). -/
theorem b64eChars_byte (e : Word) (rest : List Word) :
    b64eChars (element (byteOf e) :: rest) = b64eChars (e :: rest) := by
  rcases rest with _ | ⟨b, _ | ⟨c, rest⟩⟩ <;> simp only [b64eChars, byteOf_element]

theorem b64eChars_second_byte (a e : Word) (rest : List Word) :
    b64eChars (a :: element (byteOf e) :: rest) = b64eChars (a :: e :: rest) := by
  cases rest <;> simp only [b64eChars, byteOf_element]

/-! ### The accumulator as a field above the newest element -/

/-- Shifting `m` bits into ACC keeps its lower bits above them and drops the rest. -/
theorem shiftIn_eq_append {m : Nat} (hm : m ≤ 24) (a : BitVec 24) (v : BitVec m) :
    (a <<< m) ||| v.setWidth 24 = (a.extractLsb' 0 (24 - m) ++ v).setWidth 24 := by
  ext i hi
  by_cases h : i < m
  · simp [BitVec.getLsbD_append, h, BitVec.getLsbD_eq_getElem]
  · have inside : i - m < 24 - m := by omega
    have above : v.getLsbD i = false := BitVec.getLsbD_of_ge v i (by omega)
    simp [BitVec.getLsbD_append, h, inside, above, BitVec.getLsbD_eq_getElem (show i - m < 24 by omega)]

theorem shiftIn8_eq_append (a : BitVec 24) (b : Byte) : shiftIn8 a b = a.extractLsb' 0 16 ++ b :=
  (shiftIn_eq_append (by decide) a b).trans (BitVec.setWidth_eq _)

theorem shiftIn6_eq_append (a : BitVec 24) (v : Sextet) : shiftIn6 a v = a.extractLsb' 0 18 ++ v :=
  (shiftIn_eq_append (by decide) a v).trans (BitVec.setWidth_eq _)

theorem accByte_shiftIn8_zero (a : BitVec 24) (b : Byte) : accByte (shiftIn8 a b) 0 = element b := by
  rw [accByte, shiftIn8_eq_append, BitVec.extractLsb'_append_eq_right]

theorem accByte_shiftIn8_eight (a : BitVec 24) (b : Byte) : accByte (shiftIn8 a b) 8 = accByte a 0 := by
  rw [accByte, shiftIn8_eq_append, BitVec.extractLsb'_append_eq_of_le (by decide),
    BitVec.extractLsb'_extractLsb'_of_le (by decide)]
  rfl

/-- The two bytes of an open group are ACC[15:0]. -/
theorem openBytes_two (a : BitVec 24) : a.extractLsb' 8 8 ++ a.extractLsb' 0 8 = a.extractLsb' 0 16 :=
  BitVec.extractLsb'_append_extractLsb'_eq_extractLsb' rfl

/-! ### The decoders' loops, one element at a time (R143, R157) -/

section
variable {m : Bool} {i : Nat} {acc : BitVec 24} {k : BitVec 2} {out : List Word}

theorem b64dLoop_pad (hclass : inv (byteOf e) = .pad) :
    b64dLoop m (e :: rest) i acc k out = b64dEnd acc k out := by
  simp only [b64dLoop, hclass]

theorem b64dLoop_badChar (hclass : inv (byteOf e) = .unrecognized) :
    b64dLoop true (e :: rest) i acc k out = .failed out .b64Char i := by
  simp only [b64dLoop, hclass, if_true]

theorem b64dLoop_sextet {v : Sextet} (hv : readsAs e m v) : b64dLoop m (e :: rest) i acc k out =
    if k = 3 then b64dLoop m rest (i + 1) 0 0 (out ++ fullGroupBytes (shiftIn6 acc v))
    else b64dLoop m rest (i + 1) (shiftIn6 acc v) (k + 1) out := by
  rcases hv with hclass | ⟨hclass, rfl, rfl⟩
  · simp only [b64dLoop, hclass]
  · simp only [b64dLoop, hclass, Bool.false_eq_true, if_false]

end

section
variable {m : Bool} {i lp : Nat} {acc : BitVec 24} {out : List Word}

theorem u8dLoop_ascii {v : BitVec 7} (h : classifyLead (byteOf e) = .ascii v) :
    u8dLoop m (e :: rest) i acc 0 lp out = u8dLoop m rest (i + 1) acc 0 lp (out ++ [v.setWidth 32]) := by
  simp only [u8dLoop, h]

theorem u8dLoop_lead2 {v : BitVec 5} (h : classifyLead (byteOf e) = .lead2 v) :
    u8dLoop m (e :: rest) i acc 0 lp out = u8dLoop m rest (i + 1) (v.setWidth 24) 1 i out := by
  simp only [u8dLoop, h]

theorem u8dLoop_lead3 {v : BitVec 4} (h : classifyLead (byteOf e) = .lead3 v) :
    u8dLoop m (e :: rest) i acc 0 lp out = u8dLoop m rest (i + 1) (v.setWidth 24) 2 i out := by
  simp only [u8dLoop, h]

theorem u8dLoop_lead4 {v : BitVec 3} (h : classifyLead (byteOf e) = .lead4 v) :
    u8dLoop m (e :: rest) i acc 0 lp out = u8dLoop m rest (i + 1) (v.setWidth 24) 3 i out := by
  simp only [u8dLoop, h]

theorem u8dLoop_invalid (h : classifyLead (byteOf e) = .invalid) :
    u8dLoop m (e :: rest) i acc 0 lp out = if m then .failed out .u8Lead i else .stopped out := by
  simp only [u8dLoop, h]

theorem u8dLoop_last : u8dLoop m (e :: rest) i acc 1 lp out =
    u8dLoop m rest (i + 1) 0 0 lp (out ++ [(shiftIn6 acc (payload (byteOf e))).setWidth 32]) := by
  rw [u8dLoop]

theorem u8dLoop_inner {need : Nat} (h : need ≠ 0) : u8dLoop m (e :: rest) i acc (need + 1) lp out =
    u8dLoop m rest (i + 1) (shiftIn6 acc (payload (byteOf e))) need lp out := by
  rw [u8dLoop]
  simpa using h

end

/-! ### A consume step keeps the verdict still to come -/

/-- A byte that joins the encoder's open group (R137). -/
theorem b64eChars_openBytes {k : BitVec 2} (hk : k = 0 ∨ k = 1) (a : BitVec 24) (e : Word) (rest : List Word) :
    b64eChars (openBytes k a ++ e :: rest) = b64eChars (openBytes (k + 1) (shiftIn8 a (byteOf e)) ++ rest) := by
  rcases hk with rfl | rfl
  · exact (b64eChars_byte e rest).symm.trans (by rw [← accByte_shiftIn8_zero a]; rfl)
  · exact (b64eChars_second_byte (accByte a 0) e rest).symm.trans
      (by rw [← accByte_shiftIn8_zero a, ← accByte_shiftIn8_eight a (byteOf e)]; rfl)

/-- The byte that fills the encoder's group (R138). -/
theorem b64eChars_fullGroup (a : BitVec 24) (e : Word) (rest : List Word) :
    b64eChars (openBytes 2 a ++ e :: rest) = fullGroupChars (a.extractLsb' 0 16 ++ byteOf e) ++ b64eChars rest := by
  have two : openBytes 2 a = [accByte a 8, accByte a 0] := rfl
  simp only [two, accByte, List.cons_append, List.nil_append, b64eChars, byteOf_element, openBytes_two]

/-- What the flush leaves in the registers of a clean operation is the end of B64D (R143, R151). -/
theorem verdictOf_b64dFlush (s : State) (y : List Word) (hcode : s.errCode = .none) (hpos : s.errPos = 0)
    (htail1 : s.tail1 = false) (hovf : s.ovf = false) (hlstop : s.lstop = false) :
    verdictOf (b64dFlush s) (y ++ tailBytes s.k s.acc) = b64dEnd s.acc s.k y := by
  rw [b64dFlush_eq]
  simp [verdictOf, b64dEnd, Verdict.plain, hcode, hpos, htail1, hovf, hlstop, beq_eq_decide]

section
variable {i i' : Nat} {y' rest' : List Word}

/-- A step that stays in RUN moves the verdict still to come as it moves the resumed operation function. -/
theorem outcomeFrom_step (hs : s.phase = .run) (ht : t.phase = .run) (h : resume c i s y rest = resume c i' t y' rest') :
    outcomeFrom c i s y rest = outcomeFrom c i' t y' rest' := by
  rw [outcomeFrom_of_run hs, outcomeFrom_of_run ht, h]

/-- A step that leaves RUN settles the verdict. -/
theorem outcomeFrom_settles (hs : s.phase = .run) (ht : t.phase ≠ .run) (h : resume c i s y rest = verdictOf t y') :
    outcomeFrom c i s y rest = outcomeFrom c i' t y' rest' := by
  rw [outcomeFrom_of_run hs, outcomeFrom_of_settled ht, h]

end

/-- Every consume step emits some elements `vs` and keeps the verdict still to come (R128, R129). -/
theorem consume_outcome (h : ConsumeMove e pos s t) (hi : RecordOk s) (hc : codecOf s.opL = some c) :
    ∃ vs, t.outq = s.outq ++ vs ∧
      ∀ y rest, outcomeFrom c pos.toNat s y (e :: rest) = outcomeFrom c (pos.toNat + 1) t (y ++ vs) rest := by
  have codec {c' : Codec} (hc' : codecOf s.opL = some c') : c = c' := Option.some.inj (hc.symm.trans hc')
  cases h
  case discard hdrain =>
    refine ⟨[], by simp, fun y rest => ?_⟩
    rw [outcomeFrom_of_settled (by simp [hdrain]), outcomeFrom_of_settled (by simp [hdrain]), List.append_nil]
  case encodeByte hrun hc' hk =>
    obtain rfl := codec hc'
    refine ⟨[], by simp, fun y rest => outcomeFrom_step hrun hrun ?_⟩
    simp only [resume, List.append_nil, b64eChars_openBytes hk, setGroup_k, setGroup_acc]
  case encodeGroup hrun hc' hk =>
    obtain rfl := codec hc'
    refine ⟨_, emitAll_outq _ _, fun y rest => outcomeFrom_step hrun (by simpa using hrun) ?_⟩
    simp only [resume, hk, b64eChars_fullGroup, List.append_assoc, setGroup_k]
    rfl
  case sextet v hrun hc' hv hk =>
    obtain rfl := codec hc'
    refine ⟨[], by simp, fun y rest => outcomeFrom_step hrun hrun ?_⟩
    simp only [resume, List.append_nil, b64dLoop_sextet hv, if_neg hk, setGroup_k, setGroup_acc, setGroup_modeL]
  case decodeGroup v hrun hc' hv hk =>
    obtain rfl := codec hc'
    refine ⟨_, emitAll_outq _ _, fun y rest => outcomeFrom_step hrun (by simpa using hrun) ?_⟩
    simp only [resume, b64dLoop_sextet hv, if_pos hk, shiftIn6_eq_append, setGroup_k, setGroup_acc, setGroup_modeL,
      emitAll_modeL]
  case pad hrun hc' hclass =>
    obtain rfl := codec hc'
    obtain ⟨code, position, tail1, lstop, ovf⟩ := record_of_run hi hrun
    refine ⟨_, b64dFlush_outq s, fun y rest => outcomeFrom_settles hrun (by simp) ?_⟩
    rw [resume, b64dLoop_pad hclass]
    exact (verdictOf_b64dFlush s y code position tail1 (ovf (by simp [hc])) lstop).symm
  case badChar hrun hc' hclass hmode =>
    obtain rfl := codec hc'
    obtain ⟨code, -, tail1, lstop, ovf⟩ := record_of_run hi hrun
    refine ⟨[], by simp, fun y rest => outcomeFrom_settles hrun (by simp) ?_⟩
    rw [resume, hmode, b64dLoop_badChar hclass]
    simp [verdictOf, Verdict.failed, code, tail1, lstop, ovf, hc]
  case ascii v hrun hc' hneed hclass =>
    obtain rfl := codec hc'
    have zeroExtended : element (0#1 ++ v) = v.setWidth 32 :=
      BitVec.setWidth_append_eq_shiftLeft_setWidth_or.trans BitVec.zero_or
    refine ⟨_, rfl, fun y rest => outcomeFrom_step hrun hrun ?_⟩
    simp only [resume, hneed, emit_need, emit_acc, emit_modeL, emit_leadPos, zeroExtended]
    exact u8dLoop_ascii hclass
  case lead2 v hrun hc' hneed hclass =>
    obtain rfl := codec hc'
    refine ⟨[], by simp [u8dLead], fun y rest => outcomeFrom_step hrun hrun ?_⟩
    simp only [resume, hneed, List.append_nil]
    exact u8dLoop_lead2 hclass
  case lead3 v hrun hc' hneed hclass =>
    obtain rfl := codec hc'
    refine ⟨[], by simp [u8dLead], fun y rest => outcomeFrom_step hrun hrun ?_⟩
    simp only [resume, hneed, List.append_nil]
    exact u8dLoop_lead3 hclass
  case lead4 v hrun hc' hneed hclass =>
    obtain rfl := codec hc'
    refine ⟨[], by simp [u8dLead], fun y rest => outcomeFrom_step hrun hrun ?_⟩
    simp only [resume, hneed, List.append_nil]
    exact u8dLoop_lead4 hclass
  case badLead hrun hc' hneed hclass hmode =>
    obtain rfl := codec hc'
    obtain ⟨code, -, tail1, lstop, ovf⟩ := record_of_run hi hrun
    refine ⟨[], by simp, fun y rest => outcomeFrom_settles hrun (by simp) ?_⟩
    simp only [resume, hneed, hmode]
    exact (u8dLoop_invalid hclass).trans (by simp [verdictOf, Verdict.failed, code, tail1, lstop, ovf, hc])
  case stopLead hrun hc' hneed hclass hmode =>
    obtain rfl := codec hc'
    obtain ⟨code, position, tail1, lstop, ovf⟩ := record_of_run hi hrun
    refine ⟨[], by simp, fun y rest => outcomeFrom_settles hrun (by simp) ?_⟩
    simp only [resume, hneed, hmode]
    exact (u8dLoop_invalid hclass).trans (by simp [verdictOf, Verdict.stopped, code, position, tail1, ovf, hc])
  case inner hrun hc' hneed =>
    obtain rfl := codec hc'
    refine ⟨[], by simp, fun y rest => outcomeFrom_step hrun hrun ?_⟩
    rcases hneed with hneed | hneed <;> simp only [resume, hneed, List.append_nil] <;>
      exact u8dLoop_inner (by decide)
  case last hrun hc' hneed =>
    obtain rfl := codec hc'
    refine ⟨_, rfl, fun y rest => outcomeFrom_step hrun hrun ?_⟩
    simp only [resume, hneed]
    exact u8dLoop_last
  case codePoint hrun hc' =>
    obtain rfl := codec hc'
    have overflow : (if 0x1FFFFF < e then true else s.ovf) = (s.ovf || decide (maxCodePoint < e)) := by
      by_cases h : maxCodePoint < e
      · rw [decide_eq_true h, Bool.or_true]; exact if_pos h
      · rw [decide_eq_false h, Bool.or_false]; exact if_neg h
    rw [u8eConsume_eq, overflow]
    refine ⟨_, rfl, fun y rest => outcomeFrom_step hrun hrun ?_⟩
    simp only [resume, List.flatMap_cons, List.any_cons, List.append_assoc, Bool.or_assoc]

/-! ### A final step reads the verdict off -/

/-- Every final step emits some elements `vs` and leaves the verdict in the registers (R127, R128). -/
theorem final_outcome (h : FinalMove s t) (hi : RecordOk s) (hc : codecOf s.opL = some c) :
    ∃ vs, t.outq = s.outq ++ vs ∧ ∀ i y, outcomeFrom c i s y [] = verdictOf t (y ++ vs) := by
  have codec {c' : Codec} (hc' : codecOf s.opL = some c') : c = c' := Option.some.inj (hc.symm.trans hc')
  cases h
  case drained hdrain =>
    refine ⟨[], by simp, fun i y => ?_⟩
    rw [outcomeFrom_of_settled (by simp [hdrain]), List.append_nil]
    rfl
  case encodeNone hrun hc' hk =>
    obtain rfl := codec hc'
    obtain ⟨code, position, tail1, lstop, ovf⟩ := record_of_run hi hrun
    refine ⟨[], by simp, fun i y => ?_⟩
    rw [outcomeFrom_of_run hrun, resume, hk]
    simp [verdictOf, Verdict.plain, openBytes, b64eChars, code, position, tail1, lstop, ovf, hc]
  case encodeOne hrun hc' hk =>
    obtain rfl := codec hc'
    obtain ⟨code, position, tail1, lstop, ovf⟩ := record_of_run hi hrun
    refine ⟨_, emitAll_outq _ _, fun i y => ?_⟩
    rw [outcomeFrom_of_run hrun, resume, hk]
    simp [verdictOf, Verdict.plain, openBytes, b64eChars, accByte, code, position, tail1, lstop, ovf, hc]
  case encodeTwo hrun hc' hk =>
    obtain rfl := codec hc'
    obtain ⟨code, position, tail1, lstop, ovf⟩ := record_of_run hi hrun
    refine ⟨_, emitAll_outq _ _, fun i y => ?_⟩
    rw [outcomeFrom_of_run hrun, resume, hk]
    simp [verdictOf, Verdict.plain, openBytes, b64eChars, accByte, code, position, tail1, lstop, ovf, hc]
  case flush hrun hc' =>
    obtain rfl := codec hc'
    obtain ⟨code, position, tail1, lstop, ovf⟩ := record_of_run hi hrun
    refine ⟨_, b64dFlush_outq s, fun i y => ?_⟩
    rw [outcomeFrom_of_run hrun]
    exact (verdictOf_b64dFlush s y code position tail1 (ovf (by simp [hc])) lstop).symm
  case between hrun hc' hneed =>
    obtain rfl := codec hc'
    obtain ⟨code, position, tail1, lstop, ovf⟩ := record_of_run hi hrun
    refine ⟨[], by simp, fun i y => ?_⟩
    rw [outcomeFrom_of_run hrun, resume, hneed]
    simp [verdictOf, Verdict.plain, u8dLoop, code, position, tail1, lstop, ovf, hc]
  case truncated hrun hc' hneed hmode =>
    obtain rfl := codec hc'
    obtain ⟨code, position, tail1, lstop, ovf⟩ := record_of_run hi hrun
    have hneed : s.need.toNat ≠ 0 := fun h => hneed (BitVec.eq_of_toNat_eq h)
    refine ⟨[], by simp, fun i y => ?_⟩
    rw [outcomeFrom_of_run hrun, resume, hmode, u8dLoop, if_neg hneed]
    simp [verdictOf, Verdict.failed, code, tail1, lstop, ovf, hc]
  case stopInside hrun hc' hneed hmode =>
    obtain rfl := codec hc'
    obtain ⟨code, position, tail1, lstop, ovf⟩ := record_of_run hi hrun
    have hneed : s.need.toNat ≠ 0 := fun h => hneed (BitVec.eq_of_toNat_eq h)
    refine ⟨[], by simp, fun i y => ?_⟩
    rw [outcomeFrom_of_run hrun, resume, hmode, u8dLoop, if_neg hneed]
    simp [verdictOf, Verdict.stopped, code, position, tail1, ovf, hc]
  case encoded hrun hc' =>
    obtain rfl := codec hc'
    obtain ⟨code, position, tail1, lstop, -⟩ := record_of_run hi hrun
    refine ⟨[], by simp, fun i y => ?_⟩
    rw [outcomeFrom_of_run hrun, resume]
    simp [verdictOf, Verdict.plain, code, position, tail1, lstop]

/-! ### Runs of an operation -/

theorem acceptedBy_of_engine (h : engineMoves s = true) : acceptedBy s t = [] := if_pos h

theorem emittedBy_of_engine {vs : List Word} (h : engineMoves s = true) (hq : t.outq = s.outq ++ vs) :
    emittedBy s t = vs := by
  rw [emittedBy, if_pos h, hq, List.drop_left]

theorem emittedBy_of_host (h : engineMoves s = false) : emittedBy s t = [] := by
  rw [emittedBy, h, if_neg Bool.false_ne_true]

theorem acceptedBy_of_host {vs : List Word} (h : engineMoves s = false) (hq : t.inq = s.inq ++ vs) :
    acceptedBy s t = vs := by
  rw [acceptedBy, h, if_neg Bool.false_ne_true, hq, List.drop_left]

/-- What holds of a busy block on the way of an operation: `x` accepted, of which INQ holds what is not consumed, `y`
emitted, and the verdict still to come is the operation function's. -/
structure Underway (c : Codec) (m : Bool) (len : Word) (x y : List Word) (s : State) : Prop where
  inv      : Inv s
  codec    : codecOf s.opL = some c
  length   : s.lenL = len
  consumed : ∃ before, x = before ++ s.inq ∧ before.length = s.inCount.toNat ∧
    ∀ rest, operation c m (before ++ rest) = outcomeFrom c s.inCount.toNat s y rest

/-- What a completed operation leaves (R128). -/
def Finished (c : Codec) (m : Bool) (len : Word) (x y : List Word) (s : State) : Prop :=
  x.length = len.toNat ∧ operation c m x = verdictOf s y

section
variable {m : Bool} {len : Word} {x : List Word}

/-- A started operation is underway with nothing accepted or emitted, whatever stood before (R110, R129). -/
theorem underway_start {op : BitVec 4} (hc : codecOf op = some c) (s : State) :
    Underway c m s.inLen [] [] (start op m s) := by
  refine ⟨inv_start m s hc, hc, rfl, [], rfl, rfl, fun rest => ?_⟩
  rw [outcomeFrom_of_run rfl]
  cases c <;> rfl

/-- A consume step keeps the operation underway: its element is one of those accepted before. -/
theorem Underway.consume {p : List Event} (hu : Underway c m len x y s)
    (h : ConsumeStep { s with pending := p } e t) : ∃ vs, t.outq = s.outq ++ vs ∧ Underway c m len x (y ++ vs) t := by
  obtain ⟨hi, hc, hlen, before, hx, hbefore, houtcome⟩ := hu
  have frame := h.frame
  have record : RecordOk (popInput { s with pending := p }) :=
    ⟨hi.3.1, hi.3.2, hi.3.3, hi.3.4, hi.3.5, hi.3.6, hi.3.7, hi.3.8⟩
  obtain ⟨vs, hq, hkeep⟩ := consume_outcome h.move record hc
  obtain ⟨-, hlt, hhead, -⟩ := h.enabled
  have inq : s.inq = e :: t.inq := by rw [frame.inq]; exact List.eq_cons_of_mem_head? hhead
  have inCount : t.inCount.toNat = s.inCount.toNat + 1 := by rw [frame.inCount]; exact inCount_succ hlt
  have opL : t.opL = s.opL := frame.opL
  have lenL : t.lenL = s.lenL := frame.lenL
  refine ⟨vs, hq, h.inv (inv_withPending p hi), opL ▸ hc, lenL.trans hlen, before ++ [e], ?_, ?_, fun rest => ?_⟩
  · rw [hx, inq, List.append_assoc, List.singleton_append]
  · rw [List.length_append, List.length_singleton, hbefore, inCount]
  · rw [List.append_assoc, List.singleton_append, houtcome, inCount]
    exact hkeep y rest

/-- A final step finishes the operation: every element was accepted and consumed (R131). -/
theorem Underway.final {p : List Event} (hu : Underway c m len x y s) (h : FinalStep { s with pending := p } t) :
    ∃ vs, t.outq = s.outq ++ vs ∧ Finished c m len x (y ++ vs) t := by
  obtain ⟨hi, hc, hlen, before, hx, hbefore, houtcome⟩ := hu
  obtain ⟨vs, hq, hread⟩ := final_outcome h.move (inv_withPending p hi).record hc
  obtain ⟨-, hend, -⟩ := h.enabled
  have hend : s.inCount = s.lenL := hend
  have counted := hi.queues.counted
  have pushedLe := hi.queues.pushedLe
  rw [hend] at counted
  have inq : s.inq = [] := List.length_eq_zero_iff.mp (by omega)
  rw [inq, List.append_nil] at hx
  refine ⟨vs, hq, ?_, ?_⟩
  · rw [hx, hbefore, hend, hlen]
  · rw [hx, ← List.append_nil before, houtcome]
    exact hread _ y

/-- A quiet host transaction keeps the operation underway, with the elements it pushes accepted. -/
theorem Underway.quiet (hu : Underway c m len x y s) (h : QuietHost s t) :
    Underway c m len (x ++ acceptedBy s t) y t := by
  have hi := inv_of_quiet h hu.inv
  obtain ⟨⟨w, rest, hnext⟩, acc, k, need, leadPos, phase, errCode, errPos, tail1, ovf, lstop, inCount, -, opL, modeL,
    lenL, -, -, -, -, -, inq, -, -⟩ := h
  obtain ⟨-, hc, hlen, before, hx, hbefore, houtcome⟩ := hu
  have pushed : t.inq = s.inq ++ acceptedBy s t := by
    rcases inq with ⟨inq, -⟩ | ⟨d, -, -, inq, -⟩
    · rw [acceptedBy_of_host (not_engineMoves_of_host hnext) (vs := []) (by simp [inq]), inq, List.append_nil]
    · rw [acceptedBy_of_host (not_engineMoves_of_host hnext) inq, inq]
  have keep (rest : List Word) :
      outcomeFrom c t.inCount.toNat t y rest = outcomeFrom c s.inCount.toNat s y rest := by
    cases c <;> simp only [outcomeFrom, resume, verdictOf, acc, k, need, leadPos, phase, errCode, errPos, tail1, ovf,
      lstop, inCount, modeL]
  refine ⟨hi, by rw [opL]; exact hc, lenL.trans hlen, before, ?_, by rw [inCount]; exact hbefore, fun rest => ?_⟩
  · rw [pushed, hx, List.append_assoc]
  · rw [keep]; exact houtcome rest

/-- Wherever a run of an operation stands, the operation is underway, or it completed with its outcome, or it was cut
off. -/
theorem opRun_outcome {s0 : State} (h0 : Underway c m len [] [] s0) (h : OpRun s0 x y t) :
    (t.phase ≠ .idle → Underway c m len x y t) ∧ (t.phase = .idle → t.done = true →
      s0.phase ≠ .idle → Finished c m len x y t) := by
  induction h with
  | start => exact ⟨fun _ => h0, fun hidle _ hbusy => absurd hidle hbusy⟩
  | @next x y t u _ hbusy hstep ih =>
    have hu := ih.1 hbusy
    cases step_move hstep with
    | pass p hengine =>
      rw [acceptedBy_of_engine hengine, emittedBy_of_engine hengine (vs := []) (by simp), List.append_nil,
        List.append_nil]
      obtain ⟨hi, hc, hlen, hconsumed⟩ := hu
      exact ⟨fun _ => ⟨inv_withPending p hi, hc, hlen, hconsumed⟩, fun hidle => absurd hidle hbusy⟩
    | consume p e _ hengine hconsume =>
      obtain ⟨vs, hq, hu⟩ := hu.consume hconsume
      rw [acceptedBy_of_engine hengine, emittedBy_of_engine hengine hq, List.append_nil]
      exact ⟨fun _ => hu, fun hidle => absurd hidle hconsume.frame.busy⟩
    | final p _ hengine hfinal =>
      obtain ⟨vs, hq, hfinished⟩ := hu.final hfinal
      rw [acceptedBy_of_engine hengine, emittedBy_of_engine hengine hq, List.append_nil]
      exact ⟨fun hbusy => absurd hfinal.frame.idle hbusy, fun _ _ _ => hfinished⟩
    | reset p _ | abort p d _ _ => exact ⟨fun hbusy => absurd rfl hbusy, nofun⟩
    | start p d _ _ _ hidle | illegal p d _ _ _ hidle => exact absurd hidle hbusy
    | quiet _ hquiet =>
      obtain ⟨w, rest, hnext⟩ := hquiet.host
      rw [emittedBy_of_host (not_engineMoves_of_host hnext), List.append_nil]
      exact ⟨fun _ => hu.quiet hquiet, fun hidle => absurd (hquiet.phase.symm.trans hidle) hbusy⟩

end

/-- A command that starts a codec starts it in an idle block with its opcode and mode (R112 to R117). -/
theorem start_of_codecCommand {i : Instr} {m : Bool} (hi : startsCodec i = some (c, m)) (hidle : s.phase = .idle)
    (h : exec i s = .next t) : t = start (opcodeFor c) m s := by
  have starts (op : BitVec 4) (m : Bool) (h : .next (issueCodec op m s) = (.next t : Host.Outcome State Fault Refusal)) :
      t = start op m s :=
    (Host.Outcome.next.inj h).symm.trans (issueCodec_of_idle op m hidle)
  cases i <;> cases hi
  case b64enc | b64dec | b64decReject | u8decLenient | u8decStrict | u8enc => exact starts _ _ h

theorem codecOf_opcodeFor (c : Codec) : codecOf (opcodeFor c) = some c := by cases c <;> rfl

/-- Settles O43: a started operation is underway, every step keeps it so, and completion reads the outcome off. -/
theorem operationOutcome : Obligations.OperationOutcome := by
  intro i c m s s0 t x y hi hidle hexec hrun hend hdone
  obtain rfl := start_of_codecCommand hi hidle hexec
  have h0 : Underway c m s.inLen [] [] (start (opcodeFor c) m s) := underway_start (codecOf_opcodeFor c) s
  exact (opRun_outcome h0 hrun).2 hend hdone (by simp)

end Sys2Proof.Machine

/-! PROOF. A host that follows the protocol (70_reset_and_hazards.md, R206, R216): push, engine turn and four pops for each
element, then one engine turn, bring every operation to completion. -/

namespace Sys2Proof.Machine

variable {s s0 t : State} {x todo : List Word} {e : Word} {n : Nat}

/-- A run of an operation from `s0` has accepted `x` and stands at `s`. -/
def Accepts (s0 : State) (x : List Word) (s : State) : Prop := ∃ y, OpRun s0 x y s

theorem Accepts.engine (h : Accepts s0 x s) (hbusy : s.phase ≠ .idle) (hengine : engineMoves s = true)
    (hstep : step s = .next t) : Accepts s0 x t := by
  obtain ⟨y, hrun⟩ := h
  have next := hrun.next hbusy hstep
  rw [acceptedBy_of_engine hengine, List.append_nil] at next
  exact ⟨_, next⟩

theorem Accepts.host {vs : List Word} (h : Accepts s0 x s) (hbusy : s.phase ≠ .idle) (hhost : engineMoves s = false)
    (hstep : step s = .next t) (hq : t.inq = s.inq ++ vs) : Accepts s0 (x ++ vs) t := by
  obtain ⟨y, hrun⟩ := h
  have next := hrun.next hbusy hstep
  rw [acceptedBy_of_host hhost hq] at next
  exact ⟨_, next⟩

/-- A busy block between two elements of the protocol: INQ is empty, the elements `todo` are still to come, and `n` pops
are to take what waits in OUTQ first. -/
structure Between (todo : List Word) (n : Nat) (s : State) : Prop where
  inv     : Inv s
  busy    : s.phase ≠ .idle
  inq     : s.inq = []
  outq    : s.outq.length ≤ n
  left    : s.lenL.toNat = s.inCount.toNat + todo.length
  pending : s.pending = List.replicate n popEvent ++ protocolEvents todo

theorem protocolEvents_cons (e : Word) (todo : List Word) : protocolEvents (e :: todo) =
    pushEvent e :: .engine :: (List.replicate 4 popEvent ++ protocolEvents todo) := rfl

/-- A read of OUT_DATA takes the oldest output element, or finds none; either way OUTQ is the shorter by it (R104). -/
theorem rdOutData_tail (a : BitVec 6) (s : State) :
    ∃ perr rdData, exec (.rdOutData a) s = .next { s with outq := s.outq.tail, perr, rdData } := by
  obtain ⟨-, pops, popsNone⟩ := readOutDataPops
  cases hq : s.outq with
  | nil => exact ⟨true, 0, (popsNone a s hq).trans (by rw [hq]; rfl)⟩
  | cons v vs => exact ⟨s.perr, v, pops a s v vs hq⟩

theorem step_pop {rest : List Event} (hnext : s.pending = popEvent :: rest) :
    ∃ perr rdData, step s = .next { s with pending := rest, outq := s.outq.tail, perr, rdData } := by
  rw [stepRunsTheDecodedInstruction.1 s _ rest hnext, decode_readWord (r := .outData) (by decide)]
  exact rdOutData_tail 0x28 { s with pending := rest }

/-- The pops leave OUTQ empty. -/
theorem between_pops (h : Accepts s0 x s) (hs : Between todo n s) : ∃ t, Accepts s0 x t ∧ Between todo 0 t := by
  induction n generalizing s with
  | zero => exact ⟨s, h, hs⟩
  | succ n ih =>
    obtain ⟨hi, hbusy, hinq, houtq, hleft, hpending⟩ := hs
    obtain ⟨perr, rdData, hstep⟩ := step_pop hpending
    have hhost : engineMoves s = false := not_engineMoves_of_host hpending
    have hlength : s.outq.tail.length ≤ n := by rw [List.length_tail]; omega
    have hrun := h.host hbusy hhost hstep (vs := []) (List.append_nil _).symm
    rw [List.append_nil] at hrun
    exact ih hrun ⟨stepKeepsTheInvariant s _ hi hstep, hbusy, hinq, hlength, hleft, rfl⟩

/-- Between two elements IN_READY is 1: an element is still to come and INQ is empty (R103). -/
theorem Between.inReady (hs : Between (e :: todo) n s) : s.inReady = true := by
  obtain ⟨hi, hbusy, hinq, -, hleft, -⟩ := hs
  have counted := hi.queues.counted
  have depth := inDepth_range
  rw [hinq, List.length_nil] at counted
  rw [List.length_cons] at hleft
  exact (inReady_iff s).mpr ⟨hbusy, by bv_omega, by rw [hinq]; exact depth.1⟩

/-- An empty OUTQ has room for the largest emission (R6, R124). -/
theorem room_of_outq_empty (h : s.outq.length ≤ 0) : room 4 s := by
  have := outDepth_range
  unfold room
  omega

/-- The push of the protocol is accepted (R103). -/
theorem step_push {rest : List Event} (hnext : s.pending = pushEvent e :: rest) (hready : s.inReady = true) :
    step s = .next (pushInput e { s with pending := rest }) := by
  rw [stepRunsTheDecodedInstruction.1 s _ rest hnext, decode_writeWord (r := .inData) e (by decide)]
  exact congrArg Host.Outcome.next (if_pos hready)

/-- One element of the protocol: the push is accepted, the engine consumes it, and the pops make room again. -/
theorem between_element (h : Accepts s0 x s) (hs : Between (e :: todo) 0 s) :
    ∃ t, Accepts s0 (x ++ [e]) t ∧ Between todo 0 t := by
  have hready := hs.inReady
  obtain ⟨hi, hbusy, hinq, houtq, hleft, hpending⟩ := hs
  rw [List.replicate_zero, List.nil_append, protocolEvents_cons] at hpending
  have hpush := step_push hpending hready
  have hi1 := stepKeepsTheInvariant s _ hi hpush
  have hrun1 := h.host hbusy (not_engineMoves_of_host hpending) hpush (vs := [e]) rfl
  have hi2 := inv_withPending (List.replicate 4 popEvent ++ protocolEvents todo) hi1
  have hq2 : s.inq ++ [e] = e :: [] := by rw [hinq, List.nil_append]
  have hroom : room 4 s := room_of_outq_empty houtq
  obtain ⟨t, hturn, hconsume⟩ := engine_consumes hi2 hbusy hq2 hroom
  have hstep := (stepGivesTheEngineItsTurn.1 _ _ rfl).trans hturn
  obtain ⟨n, -, ⟨vs, houtq', -, hlength, hle⟩, -⟩ := hconsume.emission
  have frame := hconsume.frame
  have inq : t.inq = [] := frame.inq.trans (congrArg List.tail hq2)
  have inCount : t.inCount.toNat = s.inCount.toNat + 1 := by
    rw [frame.inCount]; exact inCount_succ hconsume.enabled.2.1
  have outq : t.outq.length ≤ 4 := by
    rw [houtq', List.length_append, hlength]
    exact Nat.add_le_add houtq hle
  have left : t.lenL.toNat = t.inCount.toNat + todo.length := by
    rw [inCount, frame.lenL, Nat.add_assoc, Nat.add_comm 1]; exact hleft
  exact between_pops (hrun1.engine hbusy rfl hstep)
    ⟨hconsume.inv hi2, frame.busy, inq, outq, left, frame.pending⟩

/-- The protocol over `todo` consumes it and completes (R131). -/
theorem between_completes (h : Accepts s0 x s) (hs : Between todo 0 s) :
    ∃ t, Accepts s0 (x ++ todo) t ∧ t.phase = .idle ∧ t.done = true ∧ t.pending = [] := by
  induction todo generalizing x s with
  | nil =>
    obtain ⟨hi, hbusy, hinq, houtq, hleft, hpending⟩ := hs
    have hnext : s.pending = .engine :: [] := hpending
    have hend : s.inCount = s.lenL := BitVec.eq_of_toNat_eq (by simpa using hleft.symm)
    have hroom : room 4 s := room_of_outq_empty houtq
    obtain ⟨t, hturn, hfinal⟩ := engine_completes (inv_withPending [] hi) hbusy hend hroom
    have hstep : step s = .next t := by rw [stepGivesTheEngineItsTurn.1 s [] hnext, hturn]
    have frame := hfinal.frame
    rw [List.append_nil]
    exact ⟨t, h.engine hbusy (by simp [engineMoves, hnext]) hstep, frame.idle, frame.done, frame.pending⟩
  | cons e todo ih =>
    obtain ⟨t, hrun, ht⟩ := between_element h hs
    rw [← List.singleton_append, ← List.append_assoc]
    exact ih hrun ht

/-- Settles O44: a started block stands before the first element, and the protocol over the input completes. -/
theorem protocolCompletes : Obligations.ProtocolCompletes := by
  intro i c m s s0 x hi hidle hlen hpending hexec
  obtain rfl := start_of_codecCommand hi hidle hexec
  have started : Between x 0 (start (opcodeFor c) m s) :=
    ⟨inv_start m s (codecOf_opcodeFor c), by simp, rfl, Nat.le_refl 0, by simpa using hlen, hpending⟩
  obtain ⟨t, ⟨y, hrun⟩, hend⟩ := between_completes (x := []) ⟨[], .start⟩ started
  exact ⟨y, t, hrun, hend⟩

end Sys2Proof.Machine

/-! PROOF. The operation functions by themselves (42_base64_encode.md to 45_utf8_encode.md): the alphabet, the round trips
of the two codings, the shape of the encoder's output and the bounds on every output; and the window (R49). -/

namespace Sys2Proof.Machine

variable {m : Bool} {rest : List Word} {i : Nat} {out : List Word}

/-! ### The alphabet (R71, R73) -/

theorem inv_alph : ∀ v : Sextet, inv (alph v) = .index v := by decide

/-- Settles O59, by running ALPH on the indices and INV on the bytes. -/
theorem alphabetAndItsInverse : Obligations.AlphabetAndItsInverse :=
  ⟨rfl, inv_alph, rfl, by decide, rfl⟩

/-! ### The window (R6, R49) -/

/-- Settles O60: BASE is a multiple of the window's 64 bytes, so an offset is its address's low six bits. -/
theorem windowOffsets : Obligations.WindowOffsets := by
  refine ⟨base_aligned, fun a => ?_, fun n hn => ?_⟩
  · have aligned := base_aligned
    have inside : Config.base ≤ Config.base + a.toNat ∧ Config.base + a.toNat < Config.base + 64 := by omega
    rw [offsetOf, if_pos inside]
    congr 1
    apply BitVec.eq_of_toNat_eq
    rw [BitVec.toNat_ofNat]
    omega
  · rw [offsetOf, if_neg (by omega)]

/-! ### Fields of a word, shifted in six bits at a time -/

/-- Shifting a sextet into a field gives the field with the sextet below it. -/
theorem shiftIn6_setWidth {n : Nat} (x : BitVec n) (v : Sextet) : shiftIn6 (x.setWidth 24) v = (x ++ v).setWidth 24 :=
  BitVec.setWidth_append_eq_shiftLeft_setWidth_or.symm

/-- Shifting in the six bits of `g` below a field of `g` extends the field (R74, R77). -/
theorem shiftIn6_field {w : Nat} (g : BitVec w) (lo n : Nat) :
    shiftIn6 ((g.extractLsb' (lo + 6) n).setWidth 24) (g.extractLsb' lo 6) = (g.extractLsb' lo (n + 6)).setWidth 24 := by
  rw [shiftIn6_setWidth, BitVec.extractLsb'_append_extractLsb'_eq_extractLsb' rfl]

/-- The first sextet of a word enters an empty accumulator. -/
theorem shiftIn6_zero (v : Sextet) : shiftIn6 0 v = v.setWidth 24 := by
  have empty : (0 : BitVec 24) <<< 6 = 0 := by decide
  rw [shiftIn6, empty]
  exact BitVec.zero_or

theorem extractLsb'_of_extractLsb' {w : Nat} (x : BitVec w) {lo n start len : Nat} (h : start + len ≤ n) :
    (x.extractLsb' lo n).extractLsb' start len = x.extractLsb' (lo + start) len := by
  ext k hk
  simp only [BitVec.getElem_extractLsb', BitVec.getLsbD_extractLsb', Nat.add_assoc, Bool.and_eq_right_iff_imp,
    decide_eq_true_eq]
  omega

/-- A byte of a field of `g` is a byte of `g`. -/
theorem accByte_field (g : BitVec 24) {lo n : Nat} (start : Nat) (h : start + 8 ≤ n) (hn : n ≤ 24) :
    accByte ((g.extractLsb' lo n).setWidth 24) start = accByte g (lo + start) := by
  rw [accByte, BitVec.extractLsb'_setWidth_of_le (h.trans hn), extractLsb'_of_extractLsb' g h, accByte]

/-! ### Base64: decoding what was encoded (R155) -/

theorem readsAs_groupChar (g : BitVec 24) (lo : Nat) : readsAs (groupChar g lo) m (g.extractLsb' lo 6) :=
  .inl (by rw [groupChar, byteOf_element, inv_alph])

/-- The first two characters of a group leave its upper twelve bits in the accumulator. -/
theorem b64dLoop_twoChars (g : BitVec 24) :
    b64dLoop m (groupChar g 18 :: groupChar g 12 :: rest) i 0 0 out =
      b64dLoop m rest (i + 2) ((g.extractLsb' 12 12).setWidth 24) 2 out := by
  rw [b64dLoop_sextet (readsAs_groupChar g 18), if_neg (by decide), b64dLoop_sextet (readsAs_groupChar g 12),
    if_neg (by decide), shiftIn6_zero, shiftIn6_field g 12 6]
  rfl

/-- The third leaves its upper eighteen. -/
theorem b64dLoop_threeChars (g : BitVec 24) :
    b64dLoop m (groupChar g 18 :: groupChar g 12 :: groupChar g 6 :: rest) i 0 0 out =
      b64dLoop m rest (i + 3) ((g.extractLsb' 6 18).setWidth 24) 3 out := by
  rw [b64dLoop_twoChars, b64dLoop_sextet (readsAs_groupChar g 6), if_neg (by decide), shiftIn6_field g 6 12]
  rfl

/-- The four characters of a group decode to its three bytes. -/
theorem b64dLoop_fullGroup (g : BitVec 24) : b64dLoop m (fullGroupChars g ++ rest) i 0 0 out =
    b64dLoop m rest (i + 4) 0 0 (out ++ fullGroupBytes g) := by
  have whole : shiftIn6 ((g.extractLsb' 6 18).setWidth 24) (g.extractLsb' 0 6) = g := by
    rw [shiftIn6_field g 0 18, BitVec.extractLsb'_eq_self, BitVec.setWidth_eq]
  simp only [fullGroupChars, List.cons_append, List.nil_append]
  rw [b64dLoop_threeChars, b64dLoop_sextet (readsAs_groupChar g 0), if_pos rfl, whole]

theorem b64dLoop_padCode {acc : BitVec 24} {k : BitVec 2} :
    b64dLoop m (element padCode :: rest) i acc k out = b64dEnd acc k out :=
  b64dLoop_pad (by rw [byteOf_element]; rfl)

theorem b64dEnd_two (acc : BitVec 24) : b64dEnd acc 2 out = .plain (out ++ [accByte acc 4]) := rfl

theorem b64dEnd_three (acc : BitVec 24) : b64dEnd acc 3 out = .plain (out ++ [accByte acc 10, accByte acc 2]) := rfl

theorem fullGroupBytes_append (a b c : Byte) : fullGroupBytes (a ++ b ++ c) = [element a, element b, element c] := by
  have first : (a ++ b ++ c).extractLsb' 16 8 = a :=
    (BitVec.extractLsb'_append_eq_of_le (by decide)).trans BitVec.extractLsb'_append_eq_left
  have second : (a ++ b ++ c).extractLsb' 8 8 = b :=
    (BitVec.extractLsb'_append_eq_of_le (by decide)).trans BitVec.extractLsb'_append_eq_right
  have third : (a ++ b ++ c).extractLsb' 0 8 = c := BitVec.extractLsb'_append_eq_right
  simp only [fullGroupBytes, accByte, first, second, third]

/-- Decoding the characters of a byte sequence gives the sequence: three bytes at a time, then the tail. -/
theorem b64dLoop_b64eChars : ∀ (b : List Byte) (i : Nat) (out : List Word),
    b64dLoop m (b64eChars (b.map element)) i 0 0 out = .plain (out ++ b.map element)
  | [], i, out => rfl
  | [a], i, out => by
    have byte : accByte (a ++ 0#16) (12 + 4) = element a := congrArg element BitVec.extractLsb'_append_eq_left
    simp only [List.map_cons, List.map_nil, b64eChars, oneByteChars, byteOf_element]
    rw [b64dLoop_twoChars, b64dLoop_padCode, b64dEnd_two, accByte_field _ 4 (by decide) (by decide), byte]
  | [a, b], i, out => by
    have bytes : [accByte (a ++ b ++ 0#8) (6 + 10), accByte (a ++ b ++ 0#8) (6 + 2)] = [element a, element b] :=
      congrArg (List.take 2) (fullGroupBytes_append a b 0)
    simp only [List.map_cons, List.map_nil, b64eChars, twoByteChars, byteOf_element]
    rw [b64dLoop_threeChars, b64dLoop_padCode, b64dEnd_three, accByte_field _ 10 (by decide) (by decide),
      accByte_field _ 2 (by decide) (by decide), bytes]
  | a :: b :: c :: rest, i, out => by
    simp only [List.map_cons, b64eChars, byteOf_element]
    rw [b64dLoop_fullGroup, b64dLoop_b64eChars rest, fullGroupBytes_append, List.append_assoc]
    rfl

/-- Settles O55: the encoder's characters decode group by group, from the empty accumulator. -/
theorem base64RoundTrip : Obligations.Base64RoundTrip :=
  fun _ b => b64dLoop_b64eChars b 0 []

/-! ### Base64: the shape of the encoder's output (R142) -/

/-- The output is one character for each sextet, padded to whole groups. -/
theorem b64eChars_shape : ∀ x : List Word, ∃ body : List Sextet,
    b64eChars x = body.map (fun v => element (alph v)) ++ List.replicate ((3 - x.length % 3) % 3) 0x3D ∧
      body.length + (3 - x.length % 3) % 3 = 4 * ((x.length + 2) / 3)
  | [] => ⟨[], rfl, rfl⟩
  | [a] => ⟨_ :: _ :: [], rfl, by simp⟩
  | [a, b] => ⟨_ :: _ :: _ :: [], rfl, by simp⟩
  | a :: b :: c :: rest => by
    obtain ⟨body, hchars, hlength⟩ := b64eChars_shape rest
    let g : BitVec 24 := byteOf a ++ byteOf b ++ byteOf c
    have tail : (a :: b :: c :: rest).length % 3 = rest.length % 3 := Nat.add_mod_right rest.length 3
    refine ⟨g.extractLsb' 18 6 :: g.extractLsb' 12 6 :: g.extractLsb' 6 6 :: g.extractLsb' 0 6 :: body, ?_, ?_⟩
    · rw [b64eChars, hchars, tail]
      rfl
    · simp only [List.length_cons]
      omega

theorem alph_ne_pad : ∀ v : Sextet, element (alph v) ≠ 0x3D := by decide

theorem takeWhile_pad_reverse (body : List Sextet) :
    (body.map (fun v => element (alph v))).reverse.takeWhile (fun v => v == 0x3D) = [] := by
  rw [← List.map_reverse]
  cases body.reverse with
  | nil => rfl
  | cons v vs => exact List.takeWhile_cons_of_neg (by simpa using alph_ne_pad v)

/-- Settles O57: read off the output's shape, the characters of the sextets and the padding after them. -/
theorem base64EncodeShape : Obligations.Base64EncodeShape := by
  intro x out hout
  obtain ⟨body, hchars, hlength⟩ := b64eChars_shape x
  have hout : out = _ := hout.trans hchars
  have alphabet : ∀ v ∈ body.map (fun v => element (alph v)), ∃ i, v = element (alph i) := by
    intro v hv
    obtain ⟨i, -, rfl⟩ := List.mem_map.mp hv
    exact ⟨i, rfl⟩
  refine ⟨?_, ?_, fun v hv => ?_, fun v hv => alphabet v ?_⟩
  · rw [hout, List.length_append, List.length_map, List.length_replicate, hlength]
  · rw [hout, List.reverse_append, List.reverse_replicate, List.takeWhile_append_of_pos, takeWhile_pad_reverse,
      List.append_nil, List.length_replicate]
    intro v hv
    exact beq_iff_eq.mpr (List.eq_of_mem_replicate hv)
  · rw [hout, List.mem_append, List.mem_replicate] at hv
    exact hv.symm.imp And.right (alphabet v)
  · rw [hout, List.take_append_of_le_length] at hv
    · exact List.mem_of_mem_take hv
    · simp only [List.length_append, List.length_map, List.length_replicate]
      omega

/-! ### UTF-8: decoding what was encoded (R182) -/

theorem classifyLead_asciiByte : ∀ v : BitVec 7, classifyLead (0b0#1 ++ v) = .ascii v := by decide

theorem classifyLead_lead2Byte : ∀ v : BitVec 5, classifyLead (0b110#3 ++ v) = .lead2 v := by decide

theorem classifyLead_lead3Byte : ∀ v : BitVec 4, classifyLead (0b1110#4 ++ v) = .lead3 v := by decide

theorem classifyLead_lead4Byte : ∀ v : BitVec 3, classifyLead (0b11110#5 ++ v) = .lead4 v := by decide

theorem payload_contByte (cp : Word) (lo : Nat) : payload (byteOf (contByte cp lo)) = cp.extractLsb' lo 6 := by
  have carried : ∀ w : Sextet, payload (0b10#2 ++ w) = w := by decide
  rw [contByte, byteOf_element, carried]

/-- What decodes from the encoding of `cp`: its low 21 bits (R182 b). -/
def low21 (cp : Word) : Word := (cp.extractLsb' 0 21).setWidth 32

/-- A value below `2 ^ n` is its own low `n` bits. -/
theorem extractLsb'_of_lt {cp : Word} (n : Nat) (h : cp.toNat < 2 ^ n) : (cp.extractLsb' 0 n).setWidth 32 = cp := by
  apply BitVec.eq_of_toNat_eq
  rw [BitVec.toNat_setWidth, BitVec.extractLsb'_toNat, Nat.shiftRight_zero, Nat.mod_eq_of_lt h,
    Nat.mod_eq_of_lt cp.isLt]

theorem low21_of_le {cp : Word} (h : cp ≤ 0x1FFFFF) : low21 cp = cp :=
  extractLsb'_of_lt 21 (Nat.lt_succ_of_le h)

/-- The low `n` bits of a value below `2 ^ n` are its low 21 bits. -/
theorem extractLsb'_eq_low21 {cp : Word} (n : Nat) (h : cp.toNat < 2 ^ n) (hn : n ≤ 21) :
    (cp.extractLsb' 0 n).setWidth 32 = low21 cp := by
  rw [extractLsb'_of_lt n h, low21, extractLsb'_of_lt 21 (h.trans_le (Nat.pow_le_pow_right (by decide) hn))]

section

variable {lp : Nat} {acc : BitVec 24} {cp : Word}

/-- A continuation byte within a sequence extends the field of `cp` in ACC (R162). -/
theorem u8dLoop_contByte_inner {lo n need : Nat} (h : need ≠ 0) :
    u8dLoop m (contByte cp lo :: rest) i ((cp.extractLsb' (lo + 6) n).setWidth 24) (need + 1) lp out =
      u8dLoop m rest (i + 1) ((cp.extractLsb' lo (n + 6)).setWidth 24) need lp out := by
  rw [u8dLoop_inner h, payload_contByte, shiftIn6_field]

/-- The last continuation byte completes the field and emits it (R163). -/
theorem u8dLoop_contByte_last {n : Nat} (h : n + 6 ≤ 24) :
    u8dLoop m (contByte cp 0 :: rest) i ((cp.extractLsb' 6 n).setWidth 24) 1 lp out =
      u8dLoop m rest (i + 1) 0 0 lp (out ++ [(cp.extractLsb' 0 (n + 6)).setWidth 32]) := by
  rw [u8dLoop_last, payload_contByte, shiftIn6_field cp 0 n, BitVec.setWidth_setWidth (by omega)]

/-- Between sequences, the bytes of `cp` decode to its low 21 bits. -/
theorem u8dLoop_utf8Bytes (m : Bool) (cp : Word) (rest : List Word) (i lp : Nat) (out : List Word) :
    ∃ i' lp', u8dLoop m (utf8Bytes cp ++ rest) i 0 0 lp out = u8dLoop m rest i' 0 0 lp' (out ++ [low21 cp]) := by
  by_cases h1 : cp ≤ 0x7F
  · have bytes : utf8Bytes cp = [element (0b0#1 ++ cp.extractLsb' 0 7)] := if_pos h1
    refine ⟨i + 1, lp, ?_⟩
    rw [bytes, List.singleton_append,
      u8dLoop_ascii (v := cp.extractLsb' 0 7) (by rw [byteOf_element, classifyLead_asciiByte]),
      extractLsb'_eq_low21 7 (Nat.lt_succ_of_le h1) (by decide)]
  by_cases h2 : cp ≤ 0x7FF
  · have bytes : utf8Bytes cp = [element (0b110#3 ++ cp.extractLsb' 6 5), contByte cp 0] := by
      rw [utf8Bytes, if_neg h1, if_pos h2]
    refine ⟨i + 1 + 1, i, ?_⟩
    rw [bytes, List.cons_append, List.singleton_append,
      u8dLoop_lead2 (v := cp.extractLsb' 6 5) (by rw [byteOf_element, classifyLead_lead2Byte]),
      u8dLoop_contByte_last (by decide), extractLsb'_eq_low21 11 (Nat.lt_succ_of_le h2) (by decide)]
  by_cases h3 : cp ≤ 0xFFFF
  · have bytes : utf8Bytes cp = [element (0b1110#4 ++ cp.extractLsb' 12 4), contByte cp 6, contByte cp 0] := by
      rw [utf8Bytes, if_neg h1, if_neg h2, if_pos h3]
    refine ⟨i + 1 + 1 + 1, i, ?_⟩
    rw [bytes, List.cons_append, List.cons_append, List.singleton_append,
      u8dLoop_lead3 (v := cp.extractLsb' 12 4) (by rw [byteOf_element, classifyLead_lead3Byte]),
      u8dLoop_contByte_inner (lo := 6) (by decide), u8dLoop_contByte_last (by decide),
      extractLsb'_eq_low21 16 (Nat.lt_succ_of_le h3) (by decide)]
  · have bytes : utf8Bytes cp =
        [element (0b11110#5 ++ cp.extractLsb' 18 3), contByte cp 12, contByte cp 6, contByte cp 0] := by
      rw [utf8Bytes, if_neg h1, if_neg h2, if_neg h3]
    refine ⟨i + 1 + 1 + 1 + 1, i, ?_⟩
    rw [bytes, List.cons_append, List.cons_append, List.cons_append, List.singleton_append,
      u8dLoop_lead4 (v := cp.extractLsb' 18 3) (by rw [byteOf_element, classifyLead_lead4Byte]),
      u8dLoop_contByte_inner (lo := 12) (by decide), u8dLoop_contByte_inner (lo := 6) (by decide),
      u8dLoop_contByte_last (by decide)]
    rfl

end

theorem u8dLoop_encoded (m : Bool) : ∀ (x : List Word) (i lp : Nat) (out : List Word),
    u8dLoop m (x.flatMap utf8Bytes) i 0 0 lp out = .plain (out ++ x.map low21)
  | [], i, lp, out => by rw [List.flatMap_nil, List.map_nil, List.append_nil]; rfl
  | cp :: x, i, lp, out => by
    obtain ⟨i', lp', decoded⟩ := u8dLoop_utf8Bytes m cp (x.flatMap utf8Bytes) i lp out
    rw [List.flatMap_cons, decoded, u8dLoop_encoded m x, List.append_assoc]
    rfl

/-- Settles O56: the encoding of each value decodes to its low 21 bits, which up to 0x1FFFFF are the value. -/
theorem utf8RoundTrip : Obligations.Utf8RoundTrip := by
  refine ⟨fun m x hx => ?_, fun m cp => u8dLoop_encoded m [cp] 0 0 []⟩
  have whole : x.map low21 = x := 
    (List.map_congr_left fun cp hcp => low21_of_le (hx cp hcp)).trans (List.map_id x)
  exact (u8dLoop_encoded m x 0 0 []).trans (congrArg Verdict.plain whole)

/-! ### The bounds on the output (R156, R171, R172, R208) -/

/-- What a character can be to B64D: the end, a sextet, or in strict mode the end of the operation (R145). -/
theorem b64dChar_cases (e : Word) (m : Bool) :
    inv (byteOf e) = .pad ∨ (∃ v, readsAs e m v) ∨ (inv (byteOf e) = .unrecognized ∧ m = true) := by
  cases hclass : inv (byteOf e) with
  | pad => exact .inl rfl
  | index v => exact .inr (.inl ⟨v, .inl hclass⟩)
  | unrecognized =>
    cases m with
    | false => exact .inr (.inl ⟨0, .inr ⟨hclass, rfl, rfl⟩⟩)
    | true => exact .inr (.inr ⟨rfl, rfl⟩)

theorem tailBytes_length (k : BitVec 2) (a : BitVec 24) : (tailBytes k a).length = k.toNat - 1 := by
  have values : ∀ k : BitVec 2, k = 0 ∨ k = 1 ∨ k = 2 ∨ k = 3 := by decide
  obtain rfl | rfl | rfl | rfl := values k <;> rfl

theorem b64dEnd_length (acc : BitVec 24) (k : BitVec 2) :
    (b64dEnd acc k out).emitted.length = out.length + (k.toNat - 1) := by
  rw [b64dEnd, Verdict.plain, List.length_append, tailBytes_length]

/-- From an open group of `k` sextets, three bytes for each group begun. -/
theorem b64dLoop_length (m : Bool) : ∀ (x : List Word) (i : Nat) (acc : BitVec 24) (k : BitVec 2) (out : List Word),
    (b64dLoop m x i acc k out).emitted.length ≤ out.length + 3 * ((k.toNat + x.length + 3) / 4)
  | [], i, acc, k, out => by
    rw [b64dLoop, b64dEnd_length, List.length_nil]
    omega
  | e :: x, i, acc, k, out => by
    rw [List.length_cons]
    obtain hpad | ⟨v, hv⟩ | ⟨hclass, rfl⟩ := b64dChar_cases e m
    · rw [b64dLoop_pad hpad, b64dEnd_length]
      omega
    · rw [b64dLoop_sextet hv]
      split
      · next full =>
        have h := b64dLoop_length m x (i + 1) 0 0 (out ++ fullGroupBytes (shiftIn6 acc v))
        have three : (out ++ fullGroupBytes (shiftIn6 acc v)).length = out.length + 3 := List.length_append
        have none : (0 : BitVec 2).toNat = 0 := rfl
        have full : k.toNat = 3 := congrArg BitVec.toNat full
        omega
      · next open_ =>
        have h := b64dLoop_length m x (i + 1) (shiftIn6 acc v) (k + 1) out
        have one := group_count_succ k open_
        omega
    · rw [b64dLoop_badChar hclass]
      exact Nat.le_add_right _ _

theorem b64dLoop_substitute_code : ∀ (x : List Word) (i : Nat) (acc : BitVec 24) (k : BitVec 2) (out : List Word),
    (b64dLoop false x i acc k out).code = .none
  | [], i, acc, k, out => rfl
  | e :: x, i, acc, k, out => by
    obtain hpad | ⟨v, hv⟩ | ⟨-, hstrict⟩ := b64dChar_cases e false
    · rw [b64dLoop_pad hpad]
      rfl
    · rw [b64dLoop_sextet hv]
      split <;> exact b64dLoop_substitute_code x _ _ _ _
    · cases hstrict

/-- `emitted` is `out` and at most `n` more elements, each up to 0x1FFFFF. -/
def DecodedWithin (n : Nat) (out emitted : List Word) : Prop :=
  ∃ more : List Word, emitted = out ++ more ∧ more.length ≤ n ∧ ∀ v ∈ more, v ≤ 0x1FFFFF

section

variable {n need : Nat} {emitted : List Word} {acc : BitVec 24}

theorem decodedWithin_none (n : Nat) (out : List Word) : DecodedWithin n out out :=
  ⟨[], (List.append_nil out).symm, Nat.zero_le n, fun _ hv => nomatch hv⟩

theorem DecodedWithin.skip (h : DecodedWithin n out emitted) : DecodedWithin (n + 1) out emitted :=
  h.imp fun _ => And.imp_right (And.imp_left Nat.le_succ_of_le)

theorem DecodedWithin.push {v : Word} (h : DecodedWithin n (out ++ [v]) emitted) (hv : v ≤ 0x1FFFFF) :
    DecodedWithin (n + 1) out emitted := by
  obtain ⟨more, hmore, hlength, hbound⟩ := h
  refine ⟨v :: more, ?_, Nat.succ_le_succ hlength, List.forall_mem_cons.mpr ⟨hv, hbound⟩⟩
  rw [hmore, List.append_assoc]
  rfl

/-- With `need` continuation bytes to come, ACC leaves room for their bits below 2^21 (R158, R172). -/
def SequenceFits (need : Nat) (acc : BitVec 24) : Prop := need ≠ 0 → need ≤ 3 ∧ acc.toNat < 2 ^ (21 - 6 * need)

theorem sequenceFits_closed : SequenceFits 0 acc := fun h => absurd rfl h

theorem sequenceFits_lead {w : Nat} (v : BitVec w) (hneed : need ≤ 3) (h : w + 6 * need ≤ 21) :
    SequenceFits need (v.setWidth 24) := by
  refine fun _ => ⟨hneed, ?_⟩
  calc (v.setWidth 24).toNat ≤ v.toNat := by rw [BitVec.toNat_setWidth]; exact Nat.mod_le _ _
    _ < 2 ^ w := v.isLt
    _ ≤ 2 ^ (21 - 6 * need) := Nat.pow_le_pow_right (by decide) (by omega)

theorem SequenceFits.shiftIn (h : SequenceFits (need + 1) acc) (v : Sextet) : SequenceFits need (shiftIn6 acc v) := by
  obtain ⟨hneed, hacc⟩ := h (Nat.succ_ne_zero need)
  refine fun _ => ⟨by omega, ?_⟩
  have width : 21 - 6 * (need + 1) + 6 = 21 - 6 * need := by omega
  exact width ▸ shiftIn6_lt v hacc

theorem SequenceFits.codePoint (h : SequenceFits 1 acc) (v : Sextet) :
    (shiftIn6 acc v).setWidth 32 ≤ (0x1FFFFF : Word) :=
  codePoint_le v (h (by decide)).2

end

theorem ascii_le : ∀ v : BitVec 7, v.setWidth 32 ≤ (0x1FFFFF : Word) := by decide

/-- U8D emits at most one code point for each element, each up to 0x1FFFFF. -/
theorem u8dLoop_within (m : Bool) : ∀ (x : List Word) (i : Nat) (acc : BitVec 24) (need lp : Nat) (out : List Word),
    SequenceFits need acc → DecodedWithin x.length out (u8dLoop m x i acc need lp out).emitted
  | [], i, acc, need, lp, out, _ => by
    unfold u8dLoop
    split
    · exact decodedWithin_none _ _
    · split <;> exact decodedWithin_none _ _
  | e :: x, i, acc, 0, lp, out, _ => by
    cases hlead : classifyLead (byteOf e) with
    | ascii v =>
      rw [u8dLoop_ascii hlead]
      exact (u8dLoop_within m x _ _ _ _ _ sequenceFits_closed).push (ascii_le v)
    | lead2 v =>
      rw [u8dLoop_lead2 hlead]
      exact (u8dLoop_within m x _ _ _ _ _ (sequenceFits_lead v (by decide) (by decide))).skip
    | lead3 v =>
      rw [u8dLoop_lead3 hlead]
      exact (u8dLoop_within m x _ _ _ _ _ (sequenceFits_lead v (by decide) (by decide))).skip
    | lead4 v =>
      rw [u8dLoop_lead4 hlead]
      exact (u8dLoop_within m x _ _ _ _ _ (sequenceFits_lead v (by decide) (by decide))).skip
    | invalid =>
      rw [u8dLoop_invalid hlead]
      split <;> exact decodedWithin_none _ _
  | e :: x, i, acc, 1, lp, out, h => by
    rw [u8dLoop_last]
    exact (u8dLoop_within m x _ _ _ _ _ sequenceFits_closed).push (h.codePoint _)
  | e :: x, i, acc, need + 2, lp, out, h => by
    rw [u8dLoop_inner (Nat.succ_ne_zero need)]
    exact (u8dLoop_within m x _ _ _ _ _ (h.shiftIn _)).skip

theorem utf8Bytes_length_le (cp : Word) : (utf8Bytes cp).length ≤ 4 := by
  unfold utf8Bytes
  split_ifs <;> simp only [List.length_cons, List.length_nil] <;> decide

theorem flatMap_utf8Bytes_length : ∀ x : List Word, (x.flatMap utf8Bytes).length ≤ 4 * x.length
  | [] => Nat.zero_le _
  | cp :: x => by
    have head := utf8Bytes_length_le cp
    have tail := flatMap_utf8Bytes_length x
    rw [List.flatMap_cons, List.length_append, List.length_cons]
    omega

/-- Settles O58: the bounds of the two decoding loops from their initial state, and four bytes for each code point. -/
theorem outputLengthBounds : Obligations.OutputLengthBounds := by
  intro m x
  obtain ⟨more, hmore, hlength, hbound⟩ := u8dLoop_within m x 0 0 0 0 [] sequenceFits_closed
  have emitted : (u8dFunction m x).emitted = more := hmore
  have groups : (b64dFunction m x).emitted.length ≤ 0 + 3 * ((0 + x.length + 3) / 4) := b64dLoop_length m x 0 0 0 []
  rw [Nat.zero_add, Nat.zero_add] at groups
  rw [emitted]
  exact ⟨groups, b64dLoop_substitute_code x 0 0 0 [], hlength, hbound, flatMap_utf8Bytes_length x⟩

end Sys2Proof.Machine
